-- ==== Sys2Proof/Word.lean ====
section
/-! DEFINITION. The bit-vector types of the block: register widths (10_state.md R20, R47) and the
operation word (30_encoding.md R80). -/

namespace Sys2Proof

/-- A 1-bit value: 0 is false and LOW, 1 is true and HIGH (00_scope.md R10). -/
abbrev Bit := BitVec 1

/-- A state-machine code, 3 bits wide (10_state.md R39 to R41). -/
abbrev Code := BitVec 3

/-- A register index of OBS, 4 bits wide (30_encoding.md R89, 20_memory.md R61). -/
abbrev RegIndex := BitVec 4

/-- An operation word, 8 bits wide, bit 7 most significant (30_encoding.md R80). -/
abbrev OpWord := BitVec 8

/-- A counter or duty-cycle register, and the value OBS returns, 16 bits wide (10_state.md R20,
44_operations.md R214). -/
abbrev Word := BitVec 16

end Sys2Proof
end

