-- ==== Sys2Proof/Config.lean ====
section
/-! DEFINITION. The configuration record `cfg` of 00_scope.md R7 and the one set of values the spec
completes (95_test_vectors.md section 0, RC1). The configuration is not state: no operation writes
it (R7, 10_state.md R48). -/

namespace Sys2Proof

/-- What an edge does while edge notifications are disarmed (00_scope.md R7, 42_rf_qualifier.md
R151): it is dropped, or one is kept in `EDGE_PEND`. Both are modelled (log entry 11). -/
inductive EdgePendingMode where
  | discard
  | latch
  deriving DecidableEq, Repr

/-- The configuration record of 00_scope.md R7. The integers are mathematical integers (R10), so
that the bounds of R8 can fail. `pTick` is a time, in nanoseconds (DESIGN CHOICE, log entry 14);
no rule reads it (R242). -/
structure Config where
  /-- `P_TICK`, the tick period; timing only (R283). -/
  pTick : Nat
  /-- `MAX_STEP`, the PWM steps of a period and the upper bound of the duty cycle. -/
  maxStep : Nat
  /-- `INIT_DC`, the duty cycle at reset. -/
  initDc : Nat
  /-- `POS_START`, the endpoint "Start". -/
  posStart : Nat
  /-- `POS_END`, the endpoint "End". -/
  posEnd : Nat
  /-- `SPEED`, the step delay in ticks. -/
  speed : Nat
  /-- `COUNTHIGH`, the high run-length threshold. -/
  countHigh : Nat
  /-- `COUNTLOW`, the low run-length threshold. -/
  countLow : Nat
  /-- `COUNTOLER`, the run-length tolerance. -/
  countOler : Nat
  /-- `T_VALIDATE`, the minimum assertion duration, in prescaled units. -/
  tValidate : Nat
  /-- `T_WAITEND`, the minimum de-assertion duration, in prescaled units. -/
  tWaitEnd : Nat
  /-- `T_IGNORE`, the cooldown duration, in prescaled units. -/
  tIgnore : Nat
  /-- `PRESCALE`, the ticks of a prescaled unit. -/
  prescale : Nat
  /-- `EDGE_PENDING_MODE`. -/
  edgePendingMode : EdgePendingMode
  deriving DecidableEq, Repr

/-- RC1 of 95_test_vectors.md section 0: the reference configuration of 00_scope.md R9 (`MAX_STEP`,
`INIT_DC`, `POS_START`, `POS_END`, `P_TICK`), completed with `SPEED = 1` and the test configuration's
values for the other fields. DESIGN CHOICE, log entry 2: `State.reset` carries it; every statement
is about every configuration, and none rests on these numbers. -/
def Config.rc1 : Config where
  pTick := 10000
  maxStep := 2000
  initDc := 161
  posStart := 161
  posEnd := 78
  speed := 1
  countHigh := 4
  countLow := 3
  countOler := 1
  tValidate := 2
  tWaitEnd := 2
  tIgnore := 3
  prescale := 2
  edgePendingMode := .discard

end Sys2Proof
end

