-- ==== Sys2Proof/Syntax.lean ====
section
/-! DEFINITION. The five operations, one constructor per row of `spec/opcode_table.json`
(30_encoding.md R82 to R86), the names of the sixteen registers (10_state.md R20) and the
pseudo-operations (R93). -/

namespace Sys2Proof

/-- The operations of 30_encoding.md R82 to R86, with their operands (R89). -/
inductive Instr where
  /-- TICK `L`: the periodic timer tick with the RF line level sampled at it (R82, R211). -/
  | tick (l : Bit)
  /-- EDGE: the RF rising-edge notification (R83, R212). -/
  | edge
  /-- FG `B`: one foreground pass with the debounced button press (R84, R213). -/
  | fg (b : Bit)
  /-- OBS `R`: a read of the register at index `R` (R85, R214). -/
  | obs (r : RegIndex)
  /-- RESET (R86, R215). -/
  | reset
  deriving DecidableEq, Repr

/-- The sixteen registers, in the order of their OBS index (10_state.md R20). -/
inductive Reg where
  | pwmCnt
  | pwmOut
  | dcCur
  | dcTgt
  | posDelay
  | posState
  | rfState
  | rfCnt
  | rfDet
  | edgeEn
  | ccState
  | ccTimer
  | prescCnt
  | cmd
  | ind
  | edgePend
  deriving DecidableEq, Repr

/-- The pseudo-operations of 30_encoding.md R93; `op` is an operation itself. A pseudo-operation has
no encoding of its own. -/
inductive Pseudo where
  /-- A plain operation. -/
  | op (i : Instr)
  /-- `TICKS n, L`. -/
  | ticks (n : Nat) (l : Bit)
  /-- `STEP L, B`. -/
  | step (l b : Bit)
  /-- `STEPS n, L`. -/
  | steps (n : Nat) (l : Bit)
  /-- `OBSALL`. -/
  | obsAll
  deriving DecidableEq, Repr

end Sys2Proof
end

