-- ==== Sys2Proof/WellFormed.lean ====
section
/-! DEFINITION. What is well formed: operations (30_encoding.md R89) and configurations
(00_scope.md R8). The check that RESET runs is `failingCondition` in Machine/Ops.lean; Laws/Ops.lean
proves that it finds nothing exactly when `Config.WellFormed` holds. -/

namespace Sys2Proof

/-- Every operand value is valid (R89), and the operand widths are in the types of `Instr`, so every
operation is well formed. -/
abbrev Instr.WellFormed : Instr → Prop
  | .tick l => l.toNat ≤ 1
  | .edge => True
  | .fg b => b.toNat ≤ 1
  | .obs r => r.toNat ≤ 15
  | .reset => True

/-- The conditions of 00_scope.md R8, in the order R8 lists them, one for each parameter it bounds.
The refusal `illFormedConfig` records the first that fails (60_exceptions.md R231; the grain is a
DESIGN CHOICE, log entry 7). -/
inductive ConfigCondition where
  /-- `1 <= MAX_STEP <= 65535`. -/
  | maxStepRange
  /-- `INIT_DC <= MAX_STEP`. -/
  | initDcBound
  /-- `POS_START <= MAX_STEP`. -/
  | posStartBound
  /-- `POS_END <= MAX_STEP`. -/
  | posEndBound
  /-- `SPEED >= 1`. -/
  | speedPositive
  /-- `PRESCALE >= 1`. -/
  | prescalePositive
  /-- Every other integer field is `<= 65535`. -/
  | fieldsFit
  deriving DecidableEq, Repr

/-- What each condition of 00_scope.md R8 says. `fieldsFit` covers `SPEED` and `PRESCALE` too:
DEDUCED from R7 ("at most 16 bits"), log entry 8. -/
abbrev ConfigCondition.Holds (c : Config) : ConfigCondition → Prop
  | .maxStepRange => 1 ≤ c.maxStep ∧ c.maxStep ≤ 65535
  | .initDcBound => c.initDc ≤ c.maxStep
  | .posStartBound => c.posStart ≤ c.maxStep
  | .posEndBound => c.posEnd ≤ c.maxStep
  | .speedPositive => 1 ≤ c.speed
  | .prescalePositive => 1 ≤ c.prescale
  | .fieldsFit =>
      c.speed ≤ 65535 ∧ c.countHigh ≤ 65535 ∧ c.countLow ≤ 65535 ∧ c.countOler ≤ 65535 ∧
        c.tValidate ≤ 65535 ∧ c.tWaitEnd ≤ 65535 ∧ c.tIgnore ≤ 65535 ∧ c.prescale ≤ 65535

/-- A well-formed configuration (00_scope.md R8). -/
structure Config.WellFormed (c : Config) : Prop where
  maxStep_pos : 1 ≤ c.maxStep
  maxStep_le : c.maxStep ≤ 65535
  initDc_le : c.initDc ≤ c.maxStep
  posStart_le : c.posStart ≤ c.maxStep
  posEnd_le : c.posEnd ≤ c.maxStep
  speed_pos : 1 ≤ c.speed
  prescale_pos : 1 ≤ c.prescale
  speed_le : c.speed ≤ 65535
  countHigh_le : c.countHigh ≤ 65535
  countLow_le : c.countLow ≤ 65535
  countOler_le : c.countOler ≤ 65535
  tValidate_le : c.tValidate ≤ 65535
  tWaitEnd_le : c.tWaitEnd ≤ 65535
  tIgnore_le : c.tIgnore ≤ 65535
  prescale_le : c.prescale ≤ 65535

end Sys2Proof
end

