-- ==== Sys2Proof/Machine/State.lean ====
section
/-! DEFINITION. The state: the sixteen registers and the reset mark of 10_state.md R20 and R37, the
Refused mark of 44_operations.md R216, and the three fields through which the fixed interface
carries the configuration, the operation words and the observations (log entries 1, 4, 5); the
reasons a step can stop; the machine right after reset. -/

namespace Sys2Proof.Machine

/-- The block raises no exception: no operation traps, faults, stops or reports an error
(60_exceptions.md R230). The type of faults is therefore empty: nothing raises one, and that no step
faults is part of the model (safe: the spec says so; DEDUCED, log entry 13). -/
inductive Fault where
  deriving DecidableEq, Repr

/-- Why an operation is Refused (44_operations.md R216, 60_exceptions.md R231). A refused operation
changes no register. -/
inductive Refusal where
  /-- Code 1, raised by `step` for a word that is not valid, even while Unreset; records the word
  (R88, R231). Safe: the spec refuses it. -/
  | reservedEncoding (w : OpWord)
  /-- Code 2, raised by every operation but RESET while the block is Unreset; records the word (R37,
  R231). Safe: the spec refuses it. -/
  | notReset (w : OpWord)
  /-- Code 3, raised by RESET under an ill-formed configuration; records the first failing condition
  of R8 (R215, R231). Safe: the spec refuses it. -/
  | illFormedConfig (c : ConfigCondition)
  /-- An operation whose meaning is not modelled. No arm of `exec` answers it: every operation has
  its meaning. Safe: nothing raises it. -/
  | notModelled (mnemonic : String)
  deriving DecidableEq, Repr

/-- The sixteen registers, in the order of their OBS index (10_state.md R20 to R36). -/
structure Regs where
  /-- Index 0, `PWM_CNT`, the PWM cycle counter (R21). -/
  pwmCnt : Word
  /-- Index 1, `PWM_OUT`, the level of the PWM output pin (R22). -/
  pwmOut : Bit
  /-- Index 2, `DC_CUR`, the live duty cycle (R23). -/
  dcCur : Word
  /-- Index 3, `DC_TGT`, the target duty cycle (R24). -/
  dcTgt : Word
  /-- Index 4, `POS_DELAY`, the step-delay countdown (R25). -/
  posDelay : Word
  /-- Index 5, `POS_STATE`, the ramp controller's state code (R26, R39). -/
  posState : Code
  /-- Index 6, `RF_STATE`, the RF qualifier's state code (R27, R40). -/
  rfState : Code
  /-- Index 7, `RF_CNT`, the run-length counter (R28). -/
  rfCnt : Word
  /-- Index 8, `RF_DET`, the qualifier's "detected" output (R29). -/
  rfDet : Bit
  /-- Index 9, `EDGE_EN`, the edge-notification arm flag (R30). -/
  edgeEn : Bit
  /-- Index 10, `CC_STATE`, the command-confirmation state code (R31, R41). -/
  ccState : Code
  /-- Index 11, `CC_TIMER`, the command-confirmation countdown (R32). -/
  ccTimer : Word
  /-- Index 12, `PRESC_CNT`, the prescaler's tick counter (R33). -/
  prescCnt : Word
  /-- Index 13, `CMD`, the one-shot command (R34). -/
  cmd : Bit
  /-- Index 14, `IND`, the confirmation indicator (R35). -/
  ind : Bit
  /-- Index 15, `EDGE_PEND`, the pending-edge latch (R36). -/
  edgePend : Bit
  deriving DecidableEq, Repr

/-- The block: Unreset, where no register holds a value (10_state.md R37), or running with its
sixteen registers. Which of the two it is, is the reset mark of R20. -/
inductive Block where
  | unreset
  | running (regs : Regs)
  deriving DecidableEq, Repr

/-- The state of a run. -/
structure State where
  /-- The configuration, fixed when the block is built (10_state.md R48): the parameter of the step,
  carried here because the step has no other argument (log entry 1). Nothing writes it. -/
  cfg : Config
  /-- The block's own state (10_state.md R20). -/
  block : Block
  /-- The operation words the host has issued and the block has not taken yet, the next one first
  (30_encoding.md R80, 44_operations.md R210; log entry 4). -/
  pending : List OpWord
  /-- The values the OBS operations have returned, the oldest first (44_operations.md R214, R219;
  log entry 5). -/
  obsLog : List Word
  /-- The Refused mark of the run (44_operations.md R216): set by a refusal (`advance` in
  Machine/Run.lean), cleared by nothing. -/
  refusedMark : Bool
  deriving DecidableEq, Repr

/-- The reset column of the register table of 10_state.md R20. -/
def Regs.reset (c : Config) : Regs where
  pwmCnt := 0#16
  pwmOut := 0#1
  dcCur := BitVec.ofNat 16 c.initDc
  dcTgt := BitVec.ofNat 16 c.initDc
  posDelay := 0#16
  posState := 0#3
  rfState := 0#3
  rfCnt := 0#16
  rfDet := 0#1
  edgeEn := 1#1
  ccState := 0#3
  ccTimer := 0#16
  prescCnt := 0#16
  cmd := 0#1
  ind := 0#1
  edgePend := 0#1

/-- The machine right after a first RESET under the configuration `c`: every register at the value
of 10_state.md R20, no operation waiting, nothing observed, no refusal. -/
def State.resetWith (c : Config) : State where
  cfg := c
  block := .running (Regs.reset c)
  pending := []
  obsLog := []
  refusedMark := false

/-- The machine at the start of a run, before its first RESET: Unreset (10_state.md R37,
44_operations.md R210, 70_reset_and_hazards.md R270). -/
def State.powerOn (c : Config) : State where
  cfg := c
  block := .unreset
  pending := []
  obsLog := []
  refusedMark := false

/-- The machine right after reset (10_state.md R20), under the spec's RC1 configuration (DESIGN
CHOICE, log entries 2 and 3). -/
def State.reset : State := State.resetWith Config.rc1

end Sys2Proof.Machine
end

