-- ==== Sys2Proof/Machine/Codes.lean ====
section
/-! DEFINITION. What the state-machine codes stand for (10_state.md R39 to R41). The registers hold
the 3-bit codes, unrecognized ones included (DEDUCED, log entry 12). -/

namespace Sys2Proof.Machine

/-- The states of the ramp controller (R39). -/
inductive PosPhase where
  | atRest
  | movingUp
  | movingDown
  | waitingUp
  | waitingDown
  | unrecognized
  deriving DecidableEq, Repr

/-- The states of the RF qualifier (R40). -/
inductive RfPhase where
  | idle
  | detectHigh
  | detectLow
  | detectEnd
  | unrecognized
  deriving DecidableEq, Repr

/-- The states of the command-confirmation machine (R41). -/
inductive CcPhase where
  | idle
  | validating
  | waitingForEnd
  | ignoring
  | unrecognized
  deriving DecidableEq, Repr

/-- `POS_STATE` codes: 0 AtRest, 1 MovingUp, 2 MovingDown, 3 WaitingUp, 4 WaitingDown (R39). -/
def posPhase (c : Code) : PosPhase :=
  if c = 0#3 then .atRest
  else if c = 1#3 then .movingUp
  else if c = 2#3 then .movingDown
  else if c = 3#3 then .waitingUp
  else if c = 4#3 then .waitingDown
  else .unrecognized

/-- `RF_STATE` codes: 0 Idle, 1 DetectHigh, 2 DetectLow, 3 DetectEnd (R40). -/
def rfPhase (c : Code) : RfPhase :=
  if c = 0#3 then .idle
  else if c = 1#3 then .detectHigh
  else if c = 2#3 then .detectLow
  else if c = 3#3 then .detectEnd
  else .unrecognized

/-- `CC_STATE` codes: 0 Idle, 1 Validating, 2 WaitingForEnd, 3 Ignoring (R41). -/
def ccPhase (c : Code) : CcPhase :=
  if c = 0#3 then .idle
  else if c = 1#3 then .validating
  else if c = 2#3 then .waitingForEnd
  else if c = 3#3 then .ignoring
  else .unrecognized

end Sys2Proof.Machine
end

