-- ==== Sys2Proof/Decode.lean ====
section
/-! DEFINITION. The decoder (30_encoding.md R90), the encoder (R82 to R86), the opcode table's rows
(R82 to R86, `spec/opcode_table.json`), and the host's `decodeTableWord`. -/

namespace Sys2Proof

/-- Why a word is no operation (30_encoding.md R88). -/
inductive DecodeError where
  /-- The word's `OP` is reserved or a must-be-zero bit of its format is 1 (R88). -/
  | reservedEncoding (w : OpWord)
  deriving DecidableEq, Repr

/-- `OP = w[7:5]` (R81). -/
def opField (w : OpWord) : BitVec 3 := w.extractLsb' 5 3

/-- Decoding, a total function of the 256 words (R90). -/
def decode (w : OpWord) : Except DecodeError Instr :=
  if opField w = 0b001#3 then
    if w.extractLsb' 1 4 = 0#4 then .ok (.tick (w.extractLsb' 0 1)) else .error (.reservedEncoding w)
  else if opField w = 0b010#3 then
    if w.extractLsb' 0 5 = 0#5 then .ok .edge else .error (.reservedEncoding w)
  else if opField w = 0b011#3 then
    if w.extractLsb' 1 4 = 0#4 then .ok (.fg (w.extractLsb' 0 1)) else .error (.reservedEncoding w)
  else if opField w = 0b100#3 then
    if w.extractLsb' 4 1 = 0#1 then .ok (.obs (w.extractLsb' 0 4)) else .error (.reservedEncoding w)
  else if opField w = 0b111#3 then
    if w.extractLsb' 0 5 = 0#5 then .ok .reset else .error (.reservedEncoding w)
  else .error (.reservedEncoding w)

/-- The word of an operation: the patterns of R82 to R86, operand bits last. -/
def encode : Instr → OpWord
  | .tick l => 0b0010000#7 ++ l
  | .edge => 0b01000000#8
  | .fg b => 0b0110000#7 ++ b
  | .obs r => 0b1000#4 ++ r
  | .reset => 0b11100000#8

/-- A row of the opcode table: `w` is the row's operation when `w &&& mask = pattern`. -/
structure OpcodeRow where
  mnemonic : String
  pattern : OpWord
  mask : OpWord
  deriving DecidableEq, Repr

/-- The five rows (R82 to R86; `match` and `mask` of `spec/opcode_table.json`). -/
def opcodeRows : List OpcodeRow :=
  [⟨"TICK", 0x20#8, 0xFE#8⟩, ⟨"EDGE", 0x40#8, 0xFF#8⟩, ⟨"FG", 0x60#8, 0xFE#8⟩,
    ⟨"OBS", 0x80#8, 0xF0#8⟩, ⟨"RESET", 0xE0#8, 0xFF#8⟩]

/-- The row of an operation. -/
def Instr.row : Instr → OpcodeRow
  | .tick _ => ⟨"TICK", 0x20#8, 0xFE#8⟩
  | .edge => ⟨"EDGE", 0x40#8, 0xFF#8⟩
  | .fg _ => ⟨"FG", 0x60#8, 0xFE#8⟩
  | .obs _ => ⟨"OBS", 0x80#8, 0xF0#8⟩
  | .reset => ⟨"RESET", 0xE0#8, 0xFF#8⟩

/-- The operation the decoder reads from a table word: `w` is one byte, numbered as the table
numbers it; a number of more than `nbits` or more than 8 bits is no operation word (R80). -/
def decodeTableWord (nbits w : Nat) : Option Instr :=
  if w < 2 ^ nbits ∧ w < 256 then
    match decode (BitVec.ofNat 8 w) with
    | .ok i => some i
    | .error _ => none
  else none

end Sys2Proof
end

