-- ==== Sys2Proof/Machine/Ops.lean ====
section
/-! DEFINITION. Operations shared by the meanings: the saturating helpers of 00_scope.md R12, the
reset values of 44_operations.md R215, the configuration check of R8, refusing an operation (R216)
and running one on the registers. The block has no exception to take or return from
(60_exceptions.md R230, R236, R237), so refusing is the one shared way an operation ends without its
effect. -/

namespace Sys2Proof.Machine

/-- `dec0(v) = if v = 0 then 0 else v - 1` (00_scope.md R12). -/
def dec0 (v : Word) : Word := if v = 0#16 then 0#16 else v - 1#16

/-- `inc_to(v, m) = if v >= m then m else v + 1` (00_scope.md R12). -/
def incTo (v : Word) (m : Nat) : Word := if m ≤ v.toNat then BitVec.ofNat 16 m else v + 1#16

/-- A configuration value loaded into a 16-bit register. Under a well-formed configuration it fits
(00_scope.md R8, R10); under any other its low 16 bits are kept (DESIGN CHOICE, log entry 9). -/
def loadCfg (n : Nat) : Word := BitVec.ofNat 16 n

/-- The registers RESET leaves (44_operations.md R215, 70_reset_and_hazards.md R270). -/
def resetRegs (c : Config) : Regs where
  pwmCnt := 0#16
  pwmOut := 0#1
  dcCur := loadCfg c.initDc
  dcTgt := loadCfg c.initDc
  posDelay := 0#16
  posState := 0#3
  rfState := 0#3
  rfCnt := 0#16
  rfDet := 0#1
  edgeEn := 1#1
  edgePend := 0#1
  ccState := 0#3
  ccTimer := 0#16
  prescCnt := 0#16
  cmd := 0#1
  ind := 0#1

/-- The conditions of 00_scope.md R8, in its order. -/
def configConditions : List ConfigCondition :=
  [.maxStepRange, .initDcBound, .posStartBound, .posEndBound, .speedPositive, .prescalePositive,
    .fieldsFit]

/-- Whether a configuration meets a condition of 00_scope.md R8. -/
def meetsCondition (c : Config) : ConfigCondition → Bool
  | .maxStepRange => decide (1 ≤ c.maxStep) && decide (c.maxStep ≤ 65535)
  | .initDcBound => decide (c.initDc ≤ c.maxStep)
  | .posStartBound => decide (c.posStart ≤ c.maxStep)
  | .posEndBound => decide (c.posEnd ≤ c.maxStep)
  | .speedPositive => decide (1 ≤ c.speed)
  | .prescalePositive => decide (1 ≤ c.prescale)
  | .fieldsFit =>
      [c.speed, c.countHigh, c.countLow, c.countOler, c.tValidate, c.tWaitEnd, c.tIgnore,
        c.prescale].all fun n => decide (n ≤ 65535)

/-- The first condition of 00_scope.md R8 that a configuration fails, or none (60_exceptions.md
R231). -/
def failingCondition (c : Config) : Option ConfigCondition :=
  configConditions.find? fun k => !meetsCondition c k

/-- The code of a refusal (60_exceptions.md R231); the one that no meaning answers has none of the
spec's codes. -/
def refusalCode : Refusal → Nat
  | .reservedEncoding _ => 1
  | .notReset _ => 2
  | .illFormedConfig _ => 3
  | _ => 0

/-- The state after an operation that leaves the registers `r`; the block is no longer Unreset. -/
def State.withRegs (s : State) (r : Regs) : State := { s with block := .running r }

/-- The state after an OBS that returns `v`: nothing of the block changes (44_operations.md R214). -/
def State.logObs (s : State) (v : Word) : State := { s with obsLog := s.obsLog ++ [v] }

/-- "if Unreset then refuse NotReset" (44_operations.md R211 to R214, R216), else the operation's
effect on the registers' state. -/
def onRunning (i : Instr) (s : State) (f : Regs → State) : Host.Outcome State Fault Refusal :=
  match s.block with
  | .unreset => .refused (.notReset (encode i))
  | .running r => .next (f r)

end Sys2Proof.Machine
end

