-- ==== Sys2Proof/Machine/CommandConfirmation.lean ====
section
/-! DEFINITION. The multi-stage debounce (43_command_confirmation.md). -/

namespace Sys2Proof.Machine

/-- Idle (43_command_confirmation.md R181): validation starts when a detection is seen AtRest. -/
def ccIdle (cfg : Config) (r : Regs) : Regs :=
  if r.rfDet = 1#1 ∧ r.posState = 0#3 then
    { r with ccState := 1#3, ccTimer := loadCfg cfg.tValidate }
  else r

/-- Validating (43_command_confirmation.md R182): the drop test comes before the timer test, and a
drop leaves `CC_TIMER` as it is. -/
def ccValidating (cfg : Config) (r : Regs) : Regs :=
  if r.rfDet = 0#1 then { r with ccState := 0#3 }
  else if r.ccTimer = 0#16 then
    { r with ind := 1#1, ccTimer := loadCfg cfg.tWaitEnd, ccState := 2#3 }
  else r

/-- WaitingForEnd (43_command_confirmation.md R183): a re-assertion reloads the countdown; a full
absence emits the command. -/
def ccWaitingForEnd (cfg : Config) (r : Regs) : Regs :=
  if r.rfDet = 1#1 then { r with ccTimer := loadCfg cfg.tWaitEnd }
  else if r.ccTimer = 0#16 then
    { r with ind := 0#1, cmd := 1#1, ccTimer := loadCfg cfg.tIgnore, ccState := 3#3 }
  else r

/-- Ignoring (43_command_confirmation.md R184). -/
def ccIgnoring (r : Regs) : Regs :=
  if r.ccTimer = 0#16 then { r with ccState := 0#3, cmd := 0#1 } else r

/-- Recovery from an unrecognized code (43_command_confirmation.md R185). -/
def ccRecover (r : Regs) : Regs := { r with ccState := 0#3, ccTimer := 0#16 }

/-- CC_STEP (43_command_confirmation.md R180): exactly one transition, chosen by `CC_STATE`. -/
def ccStep (cfg : Config) (r : Regs) : Regs :=
  match ccPhase r.ccState with
  | .idle => ccIdle cfg r
  | .validating => ccValidating cfg r
  | .waitingForEnd => ccWaitingForEnd cfg r
  | .ignoring => ccIgnoring r
  | .unrecognized => ccRecover r

end Sys2Proof.Machine
end

