-- ==== Sys2Proof/Machine/Countdown.lean ====
section
/-! DEFINITION. The per-tick countdowns and the prescaler (60_exceptions.md R239 to R241). -/

namespace Sys2Proof.Machine

/-- COUNTDOWN_STEP (60_exceptions.md R240): `POS_DELAY` on every tick (R239), `CC_TIMER` on each wrap
of the free-running prescaler (R241). -/
def countdownStep (cfg : Config) (r : Regs) : Regs :=
  if cfg.prescale ≤ r.prescCnt.toNat + 1 then
    { r with posDelay := dec0 r.posDelay, prescCnt := 0#16, ccTimer := dec0 r.ccTimer }
  else
    { r with posDelay := dec0 r.posDelay, prescCnt := BitVec.ofNat 16 (r.prescCnt.toNat + 1) }

end Sys2Proof.Machine
end

