-- ==== Sys2Proof/Machine/Flags.lean ====
section
/-! DEFINITION. The block has no condition codes (10_state.md R47); what a test of a flag computes
is here: a Boolean as a 1-bit value, `MOVING` (R44) and the output ports (R43). -/

namespace Sys2Proof.Machine

/-- A truth value as a 1-bit value (00_scope.md R10). -/
def bitOf (p : Bool) : Bit := if p then 1#1 else 0#1

/-- `MOVING = (x[POS_STATE] != 0)`: 1 in every state but AtRest, unrecognized codes included (R44). -/
def moving (r : Regs) : Bit := if r.posState = 0#3 then 0#1 else 1#1

/-- The values of the four output ports (R43). -/
structure Ports where
  /-- The PWM output, register `PWM_OUT`. -/
  pwmOut : Bit
  /-- The indicator, register `IND`. -/
  ind : Bit
  /-- The edge-notification enable, register `EDGE_EN`. -/
  edgeEn : Bit
  /-- The moving status, `MOVING`. -/
  moving : Bit
  deriving DecidableEq, Repr

/-- The output ports of the block (R43); while Unreset no register holds a value (R37), so no port
does (DEDUCED, log entry 17). -/
def ports (s : State) : Option Ports :=
  match s.block with
  | .unreset => none
  | .running r => some { pwmOut := r.pwmOut, ind := r.ind, edgeEn := r.edgeEn, moving := moving r }

end Sys2Proof.Machine
end

