-- ==== Sys2Proof/Machine/Operands.lean ====
section
/-! DEFINITION. Operand forms: the register index of OBS and the value it reads (10_state.md R20,
20_memory.md R61 and R64, 30_encoding.md R89, 44_operations.md R214), and the 1-bit operands `L` and
`B`. -/

namespace Sys2Proof.Machine

/-- A 1-bit operand or level that is HIGH, or a press that is reported (30_encoding.md R89,
00_scope.md R10). -/
def isHigh (b : Bit) : Bool := b == 1#1

/-- `REG(R)`: the register at an index (10_state.md R20). Every index is mapped (20_memory.md R61). -/
def regAt (i : RegIndex) : Reg :=
  if i = 0#4 then .pwmCnt
  else if i = 1#4 then .pwmOut
  else if i = 2#4 then .dcCur
  else if i = 3#4 then .dcTgt
  else if i = 4#4 then .posDelay
  else if i = 5#4 then .posState
  else if i = 6#4 then .rfState
  else if i = 7#4 then .rfCnt
  else if i = 8#4 then .rfDet
  else if i = 9#4 then .edgeEn
  else if i = 10#4 then .ccState
  else if i = 11#4 then .ccTimer
  else if i = 12#4 then .prescCnt
  else if i = 13#4 then .cmd
  else if i = 14#4 then .ind
  else .edgePend

/-- The index of a register (10_state.md R20). -/
def regIndex : Reg → RegIndex
  | .pwmCnt => 0#4
  | .pwmOut => 1#4
  | .dcCur => 2#4
  | .dcTgt => 3#4
  | .posDelay => 4#4
  | .posState => 5#4
  | .rfState => 6#4
  | .rfCnt => 7#4
  | .rfDet => 8#4
  | .edgeEn => 9#4
  | .ccState => 10#4
  | .ccTimer => 11#4
  | .prescCnt => 12#4
  | .cmd => 13#4
  | .ind => 14#4
  | .edgePend => 15#4

/-- The width of a register (10_state.md R20). -/
def regWidth : Reg → Nat
  | .pwmCnt | .dcCur | .dcTgt | .posDelay | .rfCnt | .ccTimer | .prescCnt => 16
  | .posState | .rfState | .ccState => 3
  | .pwmOut | .rfDet | .edgeEn | .cmd | .ind | .edgePend => 1

/-- `zext_16(x[REG])`: a register's whole value, zero-extended to 16 bits (44_operations.md R214,
00_scope.md R10). -/
def readReg (r : Regs) : Reg → Word
  | .pwmCnt => r.pwmCnt
  | .pwmOut => r.pwmOut.setWidth 16
  | .dcCur => r.dcCur
  | .dcTgt => r.dcTgt
  | .posDelay => r.posDelay
  | .posState => r.posState.setWidth 16
  | .rfState => r.rfState.setWidth 16
  | .rfCnt => r.rfCnt
  | .rfDet => r.rfDet.setWidth 16
  | .edgeEn => r.edgeEn.setWidth 16
  | .ccState => r.ccState.setWidth 16
  | .ccTimer => r.ccTimer
  | .prescCnt => r.prescCnt
  | .cmd => r.cmd.setWidth 16
  | .ind => r.ind.setWidth 16
  | .edgePend => r.edgePend.setWidth 16

end Sys2Proof.Machine
end

