-- ==== Sys2Proof/Machine/Positioning.lean ====
section
/-! DEFINITION. The duty-cycle ramp controller (41_positioning.md). -/

namespace Sys2Proof.Machine

/-- SelectTarget (41_positioning.md R121), the branch list as written; the last branch is the one
R136 discusses. -/
def selectTarget (cfg : Config) (c : Nat) : Nat :=
  if c = cfg.posStart then cfg.posEnd
  else if c < cfg.posStart then cfg.posStart
  else if c = cfg.posEnd then cfg.posStart
  else if c > cfg.posEnd then cfg.posEnd
  else cfg.posEnd

/-- The state code of a motion from `c` to `t` (41_positioning.md R122): MovingUp when `t > c`,
MovingDown otherwise, `t = c` included. -/
def directionCode (t c : Nat) : Code := if t > c then 1#3 else 2#3

/-- AtRest (41_positioning.md R123): a press or a command sets the target and the direction. `CMD` is
not cleared here. -/
def posAtRest (cfg : Config) (b : Bit) (r : Regs) : Regs :=
  if isHigh b ∨ r.cmd = 1#1 then
    let t := selectTarget cfg r.dcCur.toNat
    { r with dcTgt := loadCfg t, posState := directionCode t r.dcCur.toNat }
  else r

/-- The end of a motion (41_positioning.md R124, R125): the command is cleared, AtRest. -/
def completeMotion (r : Regs) : Regs := { r with cmd := 0#1, posState := 0#3 }

/-- MovingUp (41_positioning.md R124): complete, or one unit up, clamped, and the step delay armed. -/
def posMovingUp (cfg : Config) (r : Regs) : Regs :=
  if r.dcCur = r.dcTgt then completeMotion r
  else { r with
    dcCur := incTo r.dcCur cfg.maxStep
    posDelay := loadCfg cfg.speed
    posState := 3#3 }

/-- MovingDown (41_positioning.md R125): complete, or one unit down, clamped at 0, and the step delay
armed. -/
def posMovingDown (cfg : Config) (r : Regs) : Regs :=
  if r.dcCur = r.dcTgt then completeMotion r
  else { r with
    dcCur := dec0 r.dcCur
    posDelay := loadCfg cfg.speed
    posState := 4#3 }

/-- WaitingUp (41_positioning.md R126). -/
def posWaitingUp (r : Regs) : Regs := if r.posDelay = 0#16 then { r with posState := 1#3 } else r

/-- WaitingDown (41_positioning.md R127). -/
def posWaitingDown (r : Regs) : Regs := if r.posDelay = 0#16 then { r with posState := 2#3 } else r

/-- Recovery from an unrecognized code (41_positioning.md R128). -/
def posRecover (r : Regs) : Regs := { r with posState := 0#3, posDelay := 0#16 }

/-- POS_STEP (41_positioning.md R120): exactly one transition, chosen by `POS_STATE`. -/
def posStep (cfg : Config) (b : Bit) (r : Regs) : Regs :=
  match posPhase r.posState with
  | .atRest => posAtRest cfg b r
  | .movingUp => posMovingUp cfg r
  | .movingDown => posMovingDown cfg r
  | .waitingUp => posWaitingUp r
  | .waitingDown => posWaitingDown r
  | .unrecognized => posRecover r

end Sys2Proof.Machine
end

