-- ==== Sys2Proof/Machine/Pwm.lean ====
section
/-! DEFINITION. The PWM output generator (40_pwm.md). -/

namespace Sys2Proof.Machine

/-- PWM_STEP (40_pwm.md R101): increment, then the wrap test `>=`, then the comparison of the new
counter value with the live duty cycle. The wrap tick forces LOW. -/
def pwmStep (cfg : Config) (r : Regs) : Regs :=
  let n := r.pwmCnt.toNat + 1
  if cfg.maxStep ≤ n then { r with pwmCnt := 0#16, pwmOut := 0#1 }
  else { r with pwmCnt := BitVec.ofNat 16 n, pwmOut := if n ≤ r.dcCur.toNat then 1#1 else 0#1 }

end Sys2Proof.Machine
end

