-- ==== Sys2Proof/Machine/RfQualifier.lean ====
section
/-! DEFINITION. The RF envelope detector (42_rf_qualifier.md). -/

namespace Sys2Proof.Machine

/-- ARM (42_rf_qualifier.md R151): DetectHigh with the run counter at 0, notifications disarmed. -/
def arm (r : Regs) : Regs := { r with rfState := 1#3, rfCnt := 0#16, edgeEn := 0#1 }

/-- REARM (42_rf_qualifier.md R157): Idle with notifications armed; in latch mode a kept edge is
taken at once. -/
def rearm (cfg : Config) (r : Regs) : Regs :=
  let r' := { r with rfState := 0#3, rfCnt := 0#16, edgeEn := 1#1 }
  if cfg.edgePendingMode = .latch ∧ r'.edgePend = 1#1 then arm { r' with edgePend := 0#1 } else r'

/-- RF_EDGE (42_rf_qualifier.md R151): arm when armed for an edge; otherwise keep it in latch mode
and drop it in discard mode. The ramp controller's state is not read. -/
def rfEdge (cfg : Config) (r : Regs) : Regs :=
  if r.edgeEn = 1#1 then arm r
  else match cfg.edgePendingMode with
    | .latch => { r with edgePend := 1#1 }
    | .discard => r

/-- DetectHigh with the line HIGH (42_rf_qualifier.md R153). -/
def detectHighOnHigh (cfg : Config) (r : Regs) : Regs :=
  let n := r.rfCnt.toNat + 1
  if cfg.countHigh ≤ n then { r with rfState := 2#3, rfCnt := 0#16 }
  else { r with rfCnt := BitVec.ofNat 16 n }

/-- DetectHigh with the line LOW (42_rf_qualifier.md R154): success within tolerance, or failure. -/
def detectHighOnLow (cfg : Config) (r : Regs) : Regs :=
  if cfg.countHigh ≤ r.rfCnt.toNat + cfg.countOler then { r with rfState := 2#3, rfCnt := 0#16 }
  else { r with rfDet := 0#1, rfState := 3#3, rfCnt := 0#16 }

/-- DetectLow with the line LOW (42_rf_qualifier.md R155). -/
def detectLowOnLow (cfg : Config) (r : Regs) : Regs :=
  let n := r.rfCnt.toNat + 1
  if cfg.countLow ≤ n then { r with rfDet := 1#1, rfState := 3#3, rfCnt := 0#16 }
  else { r with rfCnt := BitVec.ofNat 16 n }

/-- DetectLow with the line HIGH (42_rf_qualifier.md R156): DetectEnd either way. -/
def detectLowOnHigh (cfg : Config) (r : Regs) : Regs :=
  { r with
    rfDet := if cfg.countLow ≤ r.rfCnt.toNat + cfg.countOler then 1#1 else 0#1
    rfState := 3#3
    rfCnt := 0#16 }

/-- RF_STEP (42_rf_qualifier.md R152): one transition, chosen by `RF_STATE` and the line level; an
unrecognized code re-arms (R158). -/
def rfStep (cfg : Config) (l : Bit) (r : Regs) : Regs :=
  match rfPhase r.rfState with
  | .idle => r
  | .detectHigh => if isHigh l then detectHighOnHigh cfg r else detectHighOnLow cfg r
  | .detectLow => if isHigh l then detectLowOnHigh cfg r else detectLowOnLow cfg r
  | .detectEnd => if isHigh l then rearm cfg r else r
  | .unrecognized => rearm cfg r

end Sys2Proof.Machine
end

