-- ==== Sys2Proof/Machine/Operations.lean ====
section
/-! DEFINITION. The meanings of the five operations (44_operations.md R211 to R215), composed of the
unit steps. -/

namespace Sys2Proof.Machine

/-- The RF part of a TICK: the qualifier advances only AtRest (44_operations.md R211, 41_positioning.md
R135). -/
def gatedRfStep (cfg : Config) (l : Bit) (r : Regs) : Regs :=
  if r.posState = 0#3 then rfStep cfg l r else r

/-- A TICK's effect on the registers: PWM_STEP, RF_STEP AtRest only, COUNTDOWN_STEP
(44_operations.md R211). -/
def tickRegs (cfg : Config) (l : Bit) (r : Regs) : Regs :=
  countdownStep cfg (gatedRfStep cfg l (pwmStep cfg r))

/-- An FG's effect on the registers: CC_STEP, then POS_STEP (44_operations.md R213, R218). -/
def fgRegs (cfg : Config) (b : Bit) (r : Regs) : Regs := posStep cfg b (ccStep cfg r)

/-- TICK `L` (44_operations.md R211). -/
def execTick (l : Bit) (s : State) : Host.Outcome State Fault Refusal :=
  onRunning (.tick l) s fun r => s.withRegs (tickRegs s.cfg l r)

/-- EDGE (44_operations.md R212). -/
def execEdge (s : State) : Host.Outcome State Fault Refusal :=
  onRunning .edge s fun r => s.withRegs (rfEdge s.cfg r)

/-- FG `B` (44_operations.md R213). -/
def execFg (b : Bit) (s : State) : Host.Outcome State Fault Refusal :=
  onRunning (.fg b) s fun r => s.withRegs (fgRegs s.cfg b r)

/-- OBS `R` (44_operations.md R214). -/
def execObs (i : RegIndex) (s : State) : Host.Outcome State Fault Refusal :=
  onRunning (.obs i) s fun r => s.logObs (readReg r (regAt i))

/-- RESET (44_operations.md R215), allowed in any state. The Refused mark is not cleared (R216). -/
def execReset (s : State) : Host.Outcome State Fault Refusal :=
  match failingCondition s.cfg with
  | some k => .refused (.illFormedConfig k)
  | none => .next (s.withRegs (resetRegs s.cfg))

end Sys2Proof.Machine
end

