-- ==== Sys2Proof/Machine/Dispatch.lean ====
section
/-! DEFINITION. One arm per operation, each one direct call of its meaning. -/

namespace Sys2Proof.Machine

def exec (i : Instr) (s : State) : Host.Outcome State Fault Refusal :=
  match i with
  | .tick l => Sys2Proof.Machine.execTick l s
  | .edge => Sys2Proof.Machine.execEdge s
  | .fg b => Sys2Proof.Machine.execFg b s
  | .obs r => Sys2Proof.Machine.execObs r s
  | .reset => Sys2Proof.Machine.execReset s

end Sys2Proof.Machine
end

