-- ==== Sys2Proof/Machine/Fetch.lean ====
section
/-! DEFINITION. Taking the next operation word from the host (30_encoding.md R80, 44_operations.md
R210; log entry 4). The block has no program counter (10_state.md R38): the host chooses the words. -/

namespace Sys2Proof.Machine

/-- The next operation the host has issued and the state once the block has taken it; none where
nothing waits. A word that is no operation is reported with its reason. -/
def fetch (s : State) : Option (Except DecodeError Instr × State) :=
  match s.pending with
  | [] => none
  | w :: rest => some (decode w, { s with pending := rest })

/-- The refusal a word that is no operation meets (30_encoding.md R88, 60_exceptions.md R231). -/
def refusalOf : DecodeError → Refusal
  | .reservedEncoding w => .reservedEncoding w

/-- `s` with the word `w` as the operation the next step takes, in the place of the one that stood
there. -/
def placeWord (s : State) (w : OpWord) : State := { s with pending := w :: s.pending.tail }

end Sys2Proof.Machine
end

