-- ==== Sys2Proof/Machine/Step.lean ====
section
/-! DEFINITION. One step: take the next operation word the host has issued and execute it. -/

namespace Sys2Proof.Machine

/-- One step. With no operation waiting nothing changes (00_scope.md R6, 60_exceptions.md R246). A
word that is no operation is Refused, even while Unreset (R88, R231); any other is executed with the
word taken. -/
def step (s : State) : Host.Outcome State Fault Refusal :=
  match fetch s with
  | none => .next s
  | some (.error e, _) => .refused (refusalOf e)
  | some (.ok i, t) => exec i t

/-- `s` with the operation word `w` as the one the next step takes (log entry 15). -/
def State.withFetchWord (s : State) (_nbits w : Nat) : State := placeWord s (BitVec.ofNat 8 w)

end Sys2Proof.Machine
end

