-- ==== Sys2Proof/Machine/Asm.lean ====
section
/-! DEFINITION. The pseudo-operations (30_encoding.md R93) and the assembler text (R92): the spec's
own syntax, one operation a line, `;` starting a comment. The lexical details R92 leaves open are log
entry 16. -/

namespace Sys2Proof.Machine

/-- The operations a pseudo-operation stands for, in order (30_encoding.md R93). -/
def expand : Pseudo → List Instr
  | .op i => [i]
  | .ticks n l => List.replicate n (.tick l)
  | .step l b => [.tick l, .fg b]
  | .steps n l => (List.replicate n [.tick l, .fg 0#1]).flatten
  | .obsAll => (List.range 16).map fun k => .obs (BitVec.ofNat 4 k)

/-- The words of a pseudo-operation: those of its expansion (30_encoding.md R93). -/
def encodePseudo (p : Pseudo) : List OpWord := (expand p).map encode

/-- The spec's name of a register (10_state.md R20), as the assembler writes it. -/
def regName : Reg → String
  | .pwmCnt => "PWM_CNT"
  | .pwmOut => "PWM_OUT"
  | .dcCur => "DC_CUR"
  | .dcTgt => "DC_TGT"
  | .posDelay => "POS_DELAY"
  | .posState => "POS_STATE"
  | .rfState => "RF_STATE"
  | .rfCnt => "RF_CNT"
  | .rfDet => "RF_DET"
  | .edgeEn => "EDGE_EN"
  | .ccState => "CC_STATE"
  | .ccTimer => "CC_TIMER"
  | .prescCnt => "PRESC_CNT"
  | .cmd => "CMD"
  | .ind => "IND"
  | .edgePend => "EDGE_PEND"

/-- The registers in index order. -/
def allRegs : List Reg :=
  [.pwmCnt, .pwmOut, .dcCur, .dcTgt, .posDelay, .posState, .rfState, .rfCnt, .rfDet, .edgeEn,
    .ccState, .ccTimer, .prescCnt, .cmd, .ind, .edgePend]

/-- The text of a line before its comment (R92). -/
def dropComment : List Char → List Char
  | [] => []
  | c :: cs => if c = ';' then [] else c :: dropComment cs

/-- The tokens of a line: words between blanks, a comma being a token of its own. `cur` holds the
word being read, its last character first. -/
def tokenize (cur : List Char) : List Char → List (List Char)
  | [] => if cur = [] then [] else [cur.reverse]
  | c :: cs =>
    if c = ' ' ∨ c = '\t' ∨ c = '\r' then
      (if cur = [] then [] else [cur.reverse]) ++ tokenize [] cs
    else if c = ',' then (if cur = [] then [] else [cur.reverse]) ++ [','] :: tokenize [] cs
    else tokenize (c :: cur) cs

/-- The value of a decimal digit. -/
def decDigit (c : Char) : Option Nat :=
  if 48 ≤ c.toNat ∧ c.toNat ≤ 57 then some (c.toNat - 48) else none

/-- The value of a hexadecimal digit, either case. -/
def hexDigit (c : Char) : Option Nat :=
  if 97 ≤ c.toNat ∧ c.toNat ≤ 102 then some (c.toNat - 87)
  else if 65 ≤ c.toNat ∧ c.toNat ≤ 70 then some (c.toNat - 55)
  else decDigit c

/-- A number's digits read from the left in a base, after the value `acc`. -/
def digits (base : Nat) (val : Char → Option Nat) (acc : Nat) : List Char → Option Nat
  | [] => some acc
  | c :: cs =>
    match val c with
    | some d => digits base val (acc * base + d) cs
    | none => none

/-- A decimal number, of one digit or more. -/
def decimal (t : List Char) : Option Nat := if t = [] then none else digits 10 decDigit 0 t

/-- A decimal or `0x` number (R92). -/
def number : List Char → Option Nat
  | '0' :: 'x' :: t => if t = [] then none else digits 16 hexDigit 0 t
  | t => decimal t

/-- A 1-bit operand: `0` or `1` (R92). -/
def bitOperand (t : List Char) : Option Bit :=
  if t = ['0'] then some 0#1 else if t = ['1'] then some 1#1 else none

/-- The operand of OBS: an index from 0 to 15, or a register name (R92). -/
def regOperand (t : List Char) : Option RegIndex :=
  match allRegs.find? fun g => (regName g).toList == t with
  | some g => some (regIndex g)
  | none =>
    match number t with
    | some n => if n ≤ 15 then some (BitVec.ofNat 4 n) else none
    | none => none

/-- What stands on a line: nothing (log entry 16), an operation or pseudo-operation, or no legal
form. -/
inductive Line where
  | blank
  | pseudo (p : Pseudo)
  | illegal
  deriving DecidableEq, Repr

/-- A line whose operation needs both operands read. -/
def lineOf (p : Option Pseudo) : Line :=
  match p with
  | some q => .pseudo q
  | none => .illegal

/-- A mnemonic without operands (R92, R93). -/
def parseZero (m : List Char) : Line :=
  if m = "EDGE".toList then .pseudo (.op .edge)
  else if m = "RESET".toList then .pseudo (.op .reset)
  else if m = "OBSALL".toList then .pseudo .obsAll
  else .illegal

/-- A mnemonic with one operand (R92). -/
def parseOne (m a : List Char) : Line :=
  if m = "TICK".toList then lineOf ((bitOperand a).map fun l => .op (.tick l))
  else if m = "FG".toList then lineOf ((bitOperand a).map fun b => .op (.fg b))
  else if m = "OBS".toList then lineOf ((regOperand a).map fun r => .op (.obs r))
  else .illegal

/-- A mnemonic with two operands (R93). -/
def parseTwo (m a b : List Char) : Line :=
  if m = "TICKS".toList then
    lineOf ((decimal a).bind fun n => (bitOperand b).map fun l => .ticks n l)
  else if m = "STEP".toList then
    lineOf ((bitOperand a).bind fun l => (bitOperand b).map fun p => .step l p)
  else if m = "STEPS".toList then
    lineOf ((decimal a).bind fun n => (bitOperand b).map fun l => .steps n l)
  else .illegal

/-- The tokens of one line (R92, R93). A line without tokens, empty or only a comment, is legal and
stands for no words (DESIGN CHOICE, log entry 16: R92 says "one operation per line" and leaves such a
line open). -/
def parseTokens : List (List Char) → Line
  | [] => .blank
  | [m] => parseZero m
  | [m, a] => parseOne m a
  | [m, a, c, b] => if c = [','] then parseTwo m a b else .illegal
  | _ => .illegal

/-- One line of assembler text (R92). -/
def parseLine (cs : List Char) : Line := parseTokens (tokenize [] (dropComment cs))

/-- The lines of a text; `cur` holds the line being read, its last character first. -/
def splitLines (cur : List Char) : List Char → List (List Char)
  | [] => [cur.reverse]
  | c :: cs => if c = '\n' then cur.reverse :: splitLines [] cs else splitLines (c :: cur) cs

/-- The words of the lines of a program, or none where a line is illegal. -/
def assembleLines : List (List Char) → Option (List OpWord)
  | [] => some []
  | l :: ls =>
    match parseLine l, assembleLines ls with
    | .blank, some ws => some ws
    | .pseudo p, some ws => some (encodePseudo p ++ ws)
    | _, _ => none

/-- The words of an assembler program (R92, R93). -/
def assemble (text : String) : Option (List OpWord) := assembleLines (splitLines [] text.toList)

/-- The text of a bit operand. -/
def bitText (b : Bit) : List Char := if b = 1#1 then ['1'] else ['0']

/-- The assembler line of an operation (R92), a register written by its name. -/
def printInstr : Instr → List Char
  | .tick l => "TICK ".toList ++ bitText l
  | .edge => "EDGE".toList
  | .fg b => "FG ".toList ++ bitText b
  | .obs r => "OBS ".toList ++ (regName (regAt r)).toList
  | .reset => "RESET".toList

end Sys2Proof.Machine
end

