-- ==== Sys2Proof/Machine/Run.lean ====
section
/-! DEFINITION. Runs (44_operations.md R210, R216, R219): issuing operation words, going on after a
refusal with the run's mark set, the write sets and issuers of the operations (10_state.md R45,
60_exceptions.md R244), and what a run shows. -/

namespace Sys2Proof.Machine

/-- The host issues operation words: they wait behind those already waiting (44_operations.md R210). -/
def issue (ws : List OpWord) (s : State) : State := { s with pending := s.pending ++ ws }

/-- After a refusal the word is gone, no register has changed and the run's Refused mark is set
(44_operations.md R216; DESIGN CHOICE, log entry 6). -/
def afterRefusal (s : State) : State := { s with pending := s.pending.tail, refusedMark := true }

/-- One step of a run: a refusal does not end it (44_operations.md R216). A step never faults
(60_exceptions.md R230). -/
def advance (s : State) : State :=
  match step s with
  | .next t => t
  | .refused _ => afterRefusal s
  | .fault _ => s

/-- `n` steps of a run. -/
def advanceN : Nat → State → State
  | 0, s => s
  | n + 1, s => advanceN n (advance s)

/-- A list of operations, in order, up to the first that is refused. -/
def execAll : List Instr → State → Host.Outcome State Fault Refusal
  | [], s => .next s
  | i :: is, s =>
    match exec i s with
    | .next t => execAll is t
    | .fault f => .fault f
    | .refused r => .refused r

/-- A run: the host issues the words and the block takes them all (44_operations.md R210). -/
def runWords (ws : List OpWord) (s : State) : State := advanceN ws.length (issue ws s)

/-- The write set of an operation (10_state.md R45). -/
def writeSet : Instr → List Reg
  | .tick _ =>
      [.pwmCnt, .pwmOut, .rfState, .rfCnt, .rfDet, .edgeEn, .edgePend, .posDelay, .prescCnt, .ccTimer]
  | .edge => [.rfState, .rfCnt, .edgeEn, .edgePend]
  | .fg _ => [.dcCur, .dcTgt, .posDelay, .posState, .ccState, .ccTimer, .cmd, .ind]
  | .obs _ => []
  | .reset =>
      [.pwmCnt, .pwmOut, .dcCur, .dcTgt, .posDelay, .posState, .rfState, .rfCnt, .rfDet, .edgeEn,
        .ccState, .ccTimer, .prescCnt, .cmd, .ind, .edgePend]

/-- The sources of operations (60_exceptions.md R244). -/
inductive Agent where
  | tickSource
  | edgeSource
  | foreground
  /-- "whatever issues RESET". -/
  | resetter
  deriving DecidableEq, Repr

/-- Which source issues an operation (60_exceptions.md R244). -/
def issuer : Instr → Agent
  | .tick _ => .tickSource
  | .edge => .edgeSource
  | .fg _ => .foreground
  | .obs _ => .foreground
  | .reset => .resetter

/-- What a run shows of the block (44_operations.md R219). -/
structure Observation where
  /-- The values its OBS operations returned. -/
  values : List Word
  /-- The port values after each operation: one entry for each, none for a step without one. -/
  ports : List (Option Ports)
  /-- Whether the run has a Refused mark. -/
  refused : Bool
  deriving DecidableEq, Repr

/-- The port values after each operation that `n` steps take, a refused one included
(44_operations.md R216, R219). A step that finds no operation waiting shows nothing, as the time at
which an operation takes place is not observable (R219). -/
def portTrace : Nat → State → List (Option Ports)
  | 0, _ => []
  | n + 1, s =>
    match s.pending with
    | [] => []
    | _ :: _ => ports (advance s) :: portTrace n (advance s)

/-- What `n` steps of a run show (44_operations.md R219). Steps past the last operation waiting add
nothing. -/
def observe (n : Nat) (s : State) : Observation :=
  { values := (advanceN n s).obsLog
    ports := portTrace n s
    refused := (advanceN n s).refusedMark }

/-- The bytes of an OBS result that a host serialises: the low byte first (20_memory.md R62, a host
convention; PRESUMED, log entry 18). -/
def serialise (v : Word) : List (BitVec 8) := [v.extractLsb' 0 8, v.extractLsb' 8 8]

end Sys2Proof.Machine
end

