-- ==== Sys2Proof/Safety.lean ====
section
/-! DEFINITION. The terms claims are stated in: the invariant of 10_state.md R46 with the ranges of
R21 to R42, the mark of a refused run (44_operations.md R216), and the premises on the order of
operations a claim may take (70_reset_and_hazards.md R271, R272, R276, R277). None of the premises is
built into the step. -/

namespace Sys2Proof.Safety

open Sys2Proof.Machine

/-- What holds of the registers in every state reached from RESET, at every operation boundary: the
eleven clauses of 10_state.md R46, the recognized codes of R42, the values of `DC_TGT` (R24) and the
range of `RF_CNT` (R28). -/
structure RegsInv (c : Config) (r : Regs) : Prop where
  /-- R46(a). -/
  pwmCnt_lt : r.pwmCnt.toNat < c.maxStep
  /-- R46(b). -/
  dcCur_le : r.dcCur.toNat ≤ c.maxStep
  /-- R46(c). -/
  atRest_target : r.posState = 0#3 → r.dcCur = r.dcTgt
  /-- R46(d), MovingUp and WaitingUp. -/
  up_le : r.posState = 1#3 ∨ r.posState = 3#3 → r.dcCur.toNat ≤ r.dcTgt.toNat
  /-- R46(d), MovingDown and WaitingDown. -/
  down_ge : r.posState = 2#3 ∨ r.posState = 4#3 → r.dcTgt.toNat ≤ r.dcCur.toNat
  /-- R46(e). -/
  edgeEn_iff : r.edgeEn = 1#1 ↔ r.rfState = 0#3
  /-- R46(f). -/
  rfCnt_zero : r.rfState = 0#3 ∨ r.rfState = 3#3 → r.rfCnt = 0#16
  /-- R46(g). -/
  edgePend_latch : r.edgePend = 1#1 → r.edgeEn = 0#1 ∧ c.edgePendingMode = .latch
  /-- R46(h). -/
  ind_iff : r.ind = 1#1 ↔ r.ccState = 2#3
  /-- R46(i). -/
  cmd_ignoring : r.cmd = 1#1 → r.ccState = 3#3 ∧ r.posState ≠ 0#3
  /-- R46(j). -/
  presc_lt : r.prescCnt.toNat < c.prescale
  /-- R46(k). -/
  posDelay_le : r.posDelay.toNat ≤ c.speed
  /-- R42, `POS_STATE`. -/
  posState_code : r.posState.toNat ≤ 4
  /-- R42, `RF_STATE`. -/
  rfState_code : r.rfState.toNat ≤ 3
  /-- R42, `CC_STATE`. -/
  ccState_code : r.ccState.toNat ≤ 3
  /-- R24. -/
  dcTgt_value :
    r.dcTgt.toNat = c.posStart ∨ r.dcTgt.toNat = c.posEnd ∨ r.dcTgt.toNat = c.initDc
  /-- R28: the stored run length never exceeds `max(COUNTHIGH, COUNTLOW, 1) - 1`. -/
  rfCnt_le : r.rfCnt.toNat ≤ max c.countHigh (max c.countLow 1) - 1

/-- The invariant of a state: Unreset holds no register (10_state.md R37); a running block has a
well-formed configuration (00_scope.md R8, 44_operations.md R215) and registers as R46 says. -/
def StateInv (s : State) : Prop :=
  match s.block with
  | .unreset => True
  | .running r => s.cfg.WellFormed ∧ RegsInv s.cfg r

/-- How many TICKs a list of operations holds: the block's only notion of time (60_exceptions.md
R242). -/
def tickCount : List Instr → Nat
  | [] => 0
  | .tick _ :: is => tickCount is + 1
  | .edge :: is => tickCount is
  | .fg _ :: is => tickCount is
  | .obs _ :: is => tickCount is
  | .reset :: is => tickCount is

/-- `CMD` as the POS_STEP of an FG sees it, after the CC_STEP of the same FG: set by a completed
absence in WaitingForEnd (43_command_confirmation.md R183), cleared at the end of the cooldown
(R184), else as it was (44_operations.md R218). -/
def cmdAtPosStep (r : Regs) : Bit :=
  if r.ccState = 2#3 ∧ r.rfDet = 0#1 ∧ r.ccTimer = 0#16 then 1#1
  else if r.ccState = 3#3 ∧ r.ccTimer = 0#16 then 0#1
  else r.cmd

/-- An FG that finds a motion at its target (41_positioning.md R124, R125). -/
abbrev MotionDone (r : Regs) : Prop := (r.posState = 1#3 ∨ r.posState = 2#3) ∧ r.dcCur = r.dcTgt

/-- "no Refused mark" after `n` steps, the premise a claim about a run takes (44_operations.md
R216). -/
abbrev NoRefusal (n : Nat) (s : State) : Prop := (advanceN n s).refusedMark = false

/-- `openTick` says that a TICK has come with no FG after it. -/
def schedFrom (openTick : Bool) : List Instr → Bool
  | [] => true
  | .tick _ :: is => !openTick && schedFrom true is
  | .fg _ :: is => schedFrom false is
  | .edge :: is => schedFrom openTick is
  | .obs _ :: is => schedFrom openTick is
  | .reset :: is => schedFrom openTick is

/-- *SchedOneFgPerTick*: between any two consecutive TICKs there is at least one FG
(70_reset_and_hazards.md R276). -/
abbrev SchedOneFgPerTick (is : List Instr) : Prop := schedFrom false is = true

/-- `low` says that the line was LOW when last known, `owed` that an EDGE has come with no TICK after
it. -/
def edgesFrom (low owed : Bool) : List Instr → Bool
  | [] => true
  | .edge :: is => low && edgesFrom false true is
  | .tick l :: is => (!owed || isHigh l) && edgesFrom (!isHigh l) false is
  | .fg _ :: is => edgesFrom low owed is
  | .obs _ :: is => edgesFrom low owed is
  | .reset :: is => edgesFrom low owed is

/-- The operations of a clean signal: an EDGE only when the line was LOW at the last TICK (or no TICK
has come), and HIGH at the next (70_reset_and_hazards.md R277). DEDUCED, log entry 19: a line that
falls and rises between two TICKs is not a clean signal in this sense. -/
abbrev EdgeConsistent (is : List Instr) : Prop := edgesFrom true false is = true

/-- Exactly one RESET, issued first: the runs of the source's firmware (70_reset_and_hazards.md R271). -/
abbrev SingleResetFirst (is : List Instr) : Prop := ∃ rest, is = .reset :: rest ∧ .reset ∉ rest

/-- The boot order a host must respect: a well-formed configuration, then RESET, then everything else
(70_reset_and_hazards.md R272). -/
abbrev BootOrder (c : Config) (is : List Instr) : Prop := c.WellFormed ∧ is.head? = some .reset

end Sys2Proof.Safety
end

