-- ==== Sys2Proof/Certificates/Slice0/Obligations.lean ====
section
/-! DEFINITION. The statements for the provers. A statement about every state holds for every
configuration, because the state carries it (log entry 1); none rests on the configuration of
`State.reset` (log entry 2). -/

open Sys2Proof Sys2Proof.Machine Sys2Proof.Safety

/-! ### Encoding -/

/-- 30_encoding.md R82 to R86, R90: decoding the word of an operation gives the operation, with every
operand at every value. -/
def Obligations.DecodeReadsEncodedOperation : Prop :=
  ∀ i : Instr, decode (encode i) = .ok i

/-- R90, R87: a word that decodes is the word of the operation it decodes to, so that no two words
stand for one operation. -/
def Obligations.DecodedWordIsItsEncoding : Prop :=
  ∀ (w : OpWord) (i : Instr), decode w = .ok i → encode i = w

/-- R87: the opcode map, operation by operation, and its 22 valid words. -/
def Obligations.ValidWordsAreTheOpcodeMap : Prop :=
  (∀ w : OpWord, (∃ l, decode w = .ok (.tick l)) ↔ w = 0x20#8 ∨ w = 0x21#8) ∧
  (∀ w : OpWord, decode w = .ok .edge ↔ w = 0x40#8) ∧
  (∀ w : OpWord, (∃ b, decode w = .ok (.fg b)) ↔ w = 0x60#8 ∨ w = 0x61#8) ∧
  (∀ w : OpWord, (∃ r, decode w = .ok (.obs r)) ↔ 0x80 ≤ w.toNat ∧ w.toNat ≤ 0x8F) ∧
  (∀ w : OpWord, decode w = .ok .reset ↔ w = 0xE0#8) ∧
  ((List.range 256).filter fun n => (decode (BitVec.ofNat 8 n)).isOk).length = 22

/-- R82 to R86: a few words written out from their patterns decode to what they stand for. -/
def Obligations.SampleWordsDecode : Prop :=
  decode 0b00100001#8 = .ok (.tick 1#1) ∧ decode 0b01000000#8 = .ok .edge ∧
  decode 0b01100000#8 = .ok (.fg 0#1) ∧ decode 0b10001001#8 = .ok (.obs 9#4) ∧
  decode 0b11100000#8 = .ok .reset

/-- R92: the assembler reads each operation's line as that operation. -/
def Obligations.AssemblerReadsPrintedOperation : Prop :=
  ∀ i : Instr, parseLine (printInstr i) = .pseudo (.op i)

/-! ### Steps, runs and refusals -/

/-- R80, R90, R210: a step takes the first word waiting and runs the operation it decodes to. That
the words wait in the state is the model's choice (log entry 4). -/
def Obligations.StepRunsDecodedOperation : Prop :=
  ∀ (s : State) (w : OpWord) (rest : List OpWord) (i : Instr),
    s.pending = w :: rest → decode w = .ok i → step s = exec i { s with pending := rest }

/-- R6, R246: with no operation waiting, a step changes nothing. That a step is then a next state is
the model's choice (log entry 4). -/
def Obligations.StepWithoutOperationChangesNothing : Prop :=
  ∀ s : State, s.pending = [] → step s = .next s

/-- R210, R66: the steps of a run that starts with the words of a list of operations waiting (log
entry 4) do what the operations do one after another. -/
def Obligations.StepsRunTheIssuedOperations : Prop :=
  ∀ (is : List Instr) (s t : State), s.pending = [] → execAll is s = .next t →
    advanceN is.length (issue (is.map encode) s) = t

/-- R88: a word is Refused with `ReservedEncoding` exactly when its `OP` is reserved or a must-be-zero
bit of its format is 1, whatever the state; nothing of the block changes. -/
def Obligations.ReservedWordIsRefused : Prop :=
  ∀ (s : State) (w : OpWord) (rest : List OpWord), s.pending = w :: rest →
    (step s = .refused (.reservedEncoding w) ↔
      (w.extractLsb' 5 3 = 0b000#3 ∨ w.extractLsb' 5 3 = 0b101#3 ∨ w.extractLsb' 5 3 = 0b110#3) ∨
      ((w.extractLsb' 5 3 = 0b001#3 ∨ w.extractLsb' 5 3 = 0b011#3) ∧ w.extractLsb' 1 4 ≠ 0#4) ∨
      ((w.extractLsb' 5 3 = 0b010#3 ∨ w.extractLsb' 5 3 = 0b111#3) ∧ w.extractLsb' 0 5 ≠ 0#5) ∨
      (w.extractLsb' 5 3 = 0b100#3 ∧ w.extractLsb' 4 1 = 1#1)) ∧
    (step s = .refused (.reservedEncoding w) → (advance s).block = s.block)

/-- R37: a run starts Unreset, where every operation but RESET is Refused `NotReset`. -/
def Obligations.UnresetRefusesAllButReset : Prop :=
  (∀ c : Config, (State.powerOn c).block = .unreset) ∧
  ∀ (i : Instr) (s : State), s.block = .unreset → i ≠ .reset →
    exec i s = .refused (.notReset (encode i))

/-- R216, R231: a step that is refused is refused for one of three reasons, the lowest code that
applies: the word is no operation; the block is Unreset and the operation is not RESET; RESET under
an ill-formed configuration, the bounds on `SPEED` and `PRESCALE` being log entry 8. -/
def Obligations.RefusalHasOneOfThreeReasons : Prop :=
  ∀ (s : State) (ρ : Refusal), step s = .refused ρ →
    ∃ w rest, s.pending = w :: rest ∧
      (((∀ i, decode w ≠ .ok i) ∧ ρ = .reservedEncoding w ∧ refusalCode ρ = 1) ∨
       ((∃ i, decode w = .ok i ∧ i ≠ .reset) ∧ s.block = .unreset ∧ ρ = .notReset w ∧
          refusalCode ρ = 2) ∨
       (decode w = .ok .reset ∧ ¬ s.cfg.WellFormed ∧ (∃ k, ρ = .illFormedConfig k) ∧
          refusalCode ρ = 3))

/-- R216: a refusal changes no register, returns no value, and sets the run's Refused mark; the run
goes on with the next word (how a run goes on is log entry 6). -/
def Obligations.RefusalSetsTheMarkAndChangesNoRegister : Prop :=
  ∀ (s : State) (ρ : Refusal), step s = .refused ρ →
    (advance s).refusedMark = true ∧ (advance s).block = s.block ∧ (advance s).cfg = s.cfg ∧
    (advance s).obsLog = s.obsLog ∧ (advance s).pending = s.pending.tail

/-- R216: nothing clears the Refused mark, not even RESET: it stays through any number of steps. -/
def Obligations.RefusedMarkIsNeverCleared : Prop :=
  (∀ (i : Instr) (s t : State), exec i s = .next t → t.refusedMark = s.refusedMark) ∧
  ∀ (n : Nat) (s : State), s.refusedMark = true → (advanceN n s).refusedMark = true

/-- R230, R131, R216: no operation traps, stops or reports an error. An operation answers a next state
exactly when the block runs or it is RESET under a well-formed configuration (log entry 8), whatever
the registers hold; and once the block runs under such a configuration, every list of operations, in
every order, runs to its end and sets no Refused mark. -/
def Obligations.OperationsRunToTheirEndOnceReset : Prop :=
  (∀ (i : Instr) (s : State),
    (∃ t, exec i s = .next t) ↔
      if i = .reset then s.cfg.WellFormed else ∃ r, s.block = .running r) ∧
  ∀ (is : List Instr) (s : State) (r : Regs), s.block = .running r → s.cfg.WellFormed →
    ∃ t r', execAll is s = .next t ∧ t.block = .running r' ∧ t.refusedMark = s.refusedMark

/-- R219, R210: a run shows one entry of port values for each operation taken, refused ones included,
namely the ports of the state the operation leaves; steps that find no operation waiting (log entry 4)
show nothing. -/
def Obligations.ObservationIsPerOperation : Prop :=
  (∀ (n k : Nat) (s : State), k < n → k < s.pending.length →
    (observe n s).ports[k]? = some (ports (advanceN (k + 1) s))) ∧
  (∀ (n : Nat) (s : State), (observe n s).ports.length = min n s.pending.length) ∧
  ∀ (n m : Nat) (s : State), s.pending.length ≤ n → observe (n + m) s = observe n s

/-- R48, R37: the configuration never changes, and a running block never goes back to Unreset, over
any number of steps of a run. -/
def Obligations.ConfigurationIsFixedAndResetIsKept : Prop :=
  ∀ (n : Nat) (s : State),
    (advanceN n s).cfg = s.cfg ∧
    ((∃ r, s.block = .running r) → ∃ r, (advanceN n s).block = .running r)

/-! ### RESET -/

/-- R215: under a well-formed configuration RESET leaves every register at its reset value, from any
state, and touches nothing else; under one that fails a line of R8 it is Refused. -/
def Obligations.ResetLeavesResetValues : Prop :=
  ∀ s : State,
    (s.cfg.WellFormed →
      ∃ r, exec .reset s = .next { s with block := .running r } ∧
        r.pwmCnt = 0#16 ∧ r.pwmOut = 0#1 ∧ r.dcCur.toNat = s.cfg.initDc ∧
        r.dcTgt.toNat = s.cfg.initDc ∧ r.posDelay = 0#16 ∧ r.posState = 0#3 ∧ r.rfState = 0#3 ∧
        r.rfCnt = 0#16 ∧ r.rfDet = 0#1 ∧ r.edgeEn = 1#1 ∧ r.edgePend = 0#1 ∧ r.ccState = 0#3 ∧
        r.ccTimer = 0#16 ∧ r.prescCnt = 0#16 ∧ r.cmd = 0#1 ∧ r.ind = 0#1) ∧
    (s.cfg.maxStep = 0 ∨ 65535 < s.cfg.maxStep ∨ s.cfg.maxStep < s.cfg.initDc ∨
        s.cfg.maxStep < s.cfg.posStart ∨ s.cfg.maxStep < s.cfg.posEnd ∨ s.cfg.speed = 0 ∨
        s.cfg.prescale = 0 ∨ 65535 < s.cfg.countHigh ∨ 65535 < s.cfg.countLow ∨
        65535 < s.cfg.countOler ∨ 65535 < s.cfg.tValidate ∨ 65535 < s.cfg.tWaitEnd ∨
        65535 < s.cfg.tIgnore →
      ∃ k, exec .reset s = .refused (.illFormedConfig k))

/-- R8, R231: the refusal of RESET records the first condition of R8 that fails. The grain of the
conditions and the bounds on `SPEED` and `PRESCALE` are the model's (log entries 7 and 8). -/
def Obligations.IllFormedResetNamesFirstFailingCondition : Prop :=
  ∀ s : State, ¬ s.cfg.WellFormed →
    ∃ pre k post,
      exec .reset s = .refused (.illFormedConfig k) ∧
      [ConfigCondition.maxStepRange, .initDcBound, .posStartBound, .posEndBound, .speedPositive,
        .prescalePositive, .fieldsFit] = pre ++ k :: post ∧
      ¬ k.Holds s.cfg ∧ ∀ j ∈ pre, j.Holds s.cfg

/-! ### TICK: the PWM generator and the countdowns -/

/-- R101: PWM_STEP, on every TICK. -/
def Obligations.TickStepsPwm : Prop :=
  ∀ (s : State) (r : Regs) (l : Bit), s.block = .running r → s.cfg.WellFormed →
    ∃ r', exec (.tick l) s = .next { s with block := .running r' } ∧
      if s.cfg.maxStep ≤ r.pwmCnt.toNat + 1 then r'.pwmCnt = 0#16 ∧ r'.pwmOut = 0#1
      else r'.pwmCnt.toNat = r.pwmCnt.toNat + 1 ∧
        r'.pwmOut = if r.pwmCnt.toNat + 1 ≤ r.dcCur.toNat then 1#1 else 0#1

/-- R104: after every TICK the output is HIGH exactly when the counter is not 0 and at most the duty
cycle the TICK read, and the counter is below `MAX_STEP`. -/
def Obligations.PwmOutputFollowsCounter : Prop :=
  ∀ (s : State) (r : Regs) (l : Bit), s.block = .running r → s.cfg.WellFormed →
    ∃ r', exec (.tick l) s = .next { s with block := .running r' } ∧
      (r'.pwmOut = 1#1 ↔ r'.pwmCnt ≠ 0#16 ∧ r'.pwmCnt.toNat ≤ r.dcCur.toNat) ∧
      r'.pwmCnt.toNat < s.cfg.maxStep

/-- R102: whatever operations but RESET come, the PWM counter counts the TICKs modulo `MAX_STEP`. -/
def Obligations.PwmCounterCountsTicksModuloMaxStep : Prop :=
  ∀ (is : List Instr) (s : State) (r : Regs), s.block = .running r → s.cfg.WellFormed →
    r.pwmCnt.toNat < s.cfg.maxStep → .reset ∉ is →
    ∃ t r', execAll is s = .next t ∧ t.block = .running r' ∧
      r'.pwmCnt.toNat = (r.pwmCnt.toNat + tickCount is) % s.cfg.maxStep

/-- R103: in a period through which the duty cycle is held, the output is HIGH on exactly the first
`min(d, MAX_STEP - 1)` ticks. -/
def Obligations.PwmHighTimeOfAPeriod : Prop :=
  ∀ (ls : List Bit) (s : State) (r : Regs), s.block = .running r → s.cfg.WellFormed →
    r.pwmCnt = 0#16 → 1 ≤ ls.length → ls.length ≤ s.cfg.maxStep →
    ∃ t r', execAll (ls.map .tick) s = .next t ∧ t.block = .running r' ∧
      (r'.pwmOut = 1#1 ↔ ls.length ≤ min r.dcCur.toNat (s.cfg.maxStep - 1))

/-- R239, R240: the countdowns of a TICK, in every state of the ramp controller. -/
def Obligations.TickCountsDown : Prop :=
  ∀ (s : State) (r : Regs) (l : Bit), s.block = .running r → s.cfg.WellFormed →
    ∃ r', exec (.tick l) s = .next { s with block := .running r' } ∧
      r'.posDelay.toNat = (if r.posDelay.toNat = 0 then 0 else r.posDelay.toNat - 1) ∧
      if s.cfg.prescale ≤ r.prescCnt.toNat + 1 then
        r'.prescCnt = 0#16 ∧
          r'.ccTimer.toNat = (if r.ccTimer.toNat = 0 then 0 else r.ccTimer.toNat - 1)
      else r'.prescCnt.toNat = r.prescCnt.toNat + 1 ∧ r'.ccTimer = r.ccTimer

/-- R189: with no FG and no RESET between, `CC_TIMER` reads 0 exactly from the TICK on that completes
`N * PRESCALE - p` TICKs, where `N` is its value and `p` the prescaler's at the start. -/
def Obligations.ConfirmationTimerRunsOutAfterItsTicks : Prop :=
  ∀ (is : List Instr) (s : State) (r : Regs), s.block = .running r → s.cfg.WellFormed →
    r.prescCnt.toNat < s.cfg.prescale → .reset ∉ is → (∀ b, .fg b ∉ is) →
    ∃ t r', execAll is s = .next t ∧ t.block = .running r' ∧
      (r'.ccTimer = 0#16 ↔ r.ccTimer.toNat * s.cfg.prescale ≤ r.prescCnt.toNat + tickCount is)

/-- R217: the three steps of a TICK give the same registers in every order. -/
def Obligations.TickStepsCommute : Prop :=
  ∀ (cfg : Config) (l : Bit) (r : Regs),
    let p := pwmStep cfg
    let f := gatedRfStep cfg l
    let c := countdownStep cfg
    tickRegs cfg l r = c (p (f r)) ∧ tickRegs cfg l r = f (c (p r)) ∧
    tickRegs cfg l r = f (p (c r)) ∧ tickRegs cfg l r = p (c (f r)) ∧
    tickRegs cfg l r = p (f (c r))

/-! ### TICK: the RF qualifier -/

/-- R135, R211: outside AtRest a TICK leaves the qualifier's registers as they are. -/
def Obligations.TickLeavesQualifierFrozenWhileMoving : Prop :=
  ∀ (s : State) (r : Regs) (l : Bit), s.block = .running r → r.posState ≠ 0#3 →
    ∃ r', exec (.tick l) s = .next { s with block := .running r' } ∧
      r'.rfState = r.rfState ∧ r'.rfCnt = r.rfCnt ∧ r'.rfDet = r.rfDet ∧ r'.edgeEn = r.edgeEn ∧
      r'.edgePend = r.edgePend

/-- R152: Idle waits for an EDGE; a TICK changes nothing of the qualifier. -/
def Obligations.TickInRfIdle : Prop :=
  ∀ (s : State) (r : Regs) (l : Bit), s.block = .running r → r.posState = 0#3 → r.rfState = 0#3 →
    ∃ r', exec (.tick l) s = .next { s with block := .running r' } ∧
      r'.rfState = r.rfState ∧ r'.rfCnt = r.rfCnt ∧ r'.rfDet = r.rfDet ∧ r'.edgeEn = r.edgeEn ∧
      r'.edgePend = r.edgePend

/-- R153: DetectHigh with the line HIGH. -/
def Obligations.TickInDetectHighLineHigh : Prop :=
  ∀ (s : State) (r : Regs), s.block = .running r → s.cfg.WellFormed → r.posState = 0#3 →
    r.rfState = 1#3 →
    ∃ r', exec (.tick 1#1) s = .next { s with block := .running r' } ∧
      (if s.cfg.countHigh ≤ r.rfCnt.toNat + 1 then r'.rfState = 2#3 ∧ r'.rfCnt = 0#16
        else r'.rfState = 1#3 ∧ r'.rfCnt.toNat = r.rfCnt.toNat + 1) ∧
      r'.rfDet = r.rfDet ∧ r'.edgeEn = r.edgeEn ∧ r'.edgePend = r.edgePend

/-- R154: DetectHigh with the line LOW. -/
def Obligations.TickInDetectHighLineLow : Prop :=
  ∀ (s : State) (r : Regs), s.block = .running r → r.posState = 0#3 → r.rfState = 1#3 →
    ∃ r', exec (.tick 0#1) s = .next { s with block := .running r' } ∧
      (if s.cfg.countHigh ≤ r.rfCnt.toNat + s.cfg.countOler then
          r'.rfState = 2#3 ∧ r'.rfCnt = 0#16 ∧ r'.rfDet = r.rfDet
        else r'.rfState = 3#3 ∧ r'.rfCnt = 0#16 ∧ r'.rfDet = 0#1) ∧
      r'.edgeEn = r.edgeEn ∧ r'.edgePend = r.edgePend

/-- R155: DetectLow with the line LOW. -/
def Obligations.TickInDetectLowLineLow : Prop :=
  ∀ (s : State) (r : Regs), s.block = .running r → s.cfg.WellFormed → r.posState = 0#3 →
    r.rfState = 2#3 →
    ∃ r', exec (.tick 0#1) s = .next { s with block := .running r' } ∧
      (if s.cfg.countLow ≤ r.rfCnt.toNat + 1 then
          r'.rfState = 3#3 ∧ r'.rfCnt = 0#16 ∧ r'.rfDet = 1#1
        else r'.rfState = 2#3 ∧ r'.rfCnt.toNat = r.rfCnt.toNat + 1 ∧ r'.rfDet = r.rfDet) ∧
      r'.edgeEn = r.edgeEn ∧ r'.edgePend = r.edgePend

/-- R156: DetectLow with the line HIGH. -/
def Obligations.TickInDetectLowLineHigh : Prop :=
  ∀ (s : State) (r : Regs), s.block = .running r → r.posState = 0#3 → r.rfState = 2#3 →
    ∃ r', exec (.tick 1#1) s = .next { s with block := .running r' } ∧
      r'.rfState = 3#3 ∧ r'.rfCnt = 0#16 ∧
      r'.rfDet = (if s.cfg.countLow ≤ r.rfCnt.toNat + s.cfg.countOler then 1#1 else 0#1) ∧
      r'.edgeEn = r.edgeEn ∧ r'.edgePend = r.edgePend

/-- R157: DetectEnd, both line levels; the kept edge of latch mode is taken at once. -/
def Obligations.TickInDetectEnd : Prop :=
  ∀ (s : State) (r : Regs) (l : Bit), s.block = .running r → r.posState = 0#3 → r.rfState = 3#3 →
    ∃ r', exec (.tick l) s = .next { s with block := .running r' } ∧
      (if l = 1#1 then
          r'.rfCnt = 0#16 ∧
          (if s.cfg.edgePendingMode = .latch ∧ r.edgePend = 1#1 then
              r'.rfState = 1#3 ∧ r'.edgeEn = 0#1 ∧ r'.edgePend = 0#1
            else r'.rfState = 0#3 ∧ r'.edgeEn = 1#1 ∧ r'.edgePend = r.edgePend)
        else r'.rfState = 3#3 ∧ r'.rfCnt = r.rfCnt ∧ r'.edgeEn = r.edgeEn ∧
          r'.edgePend = r.edgePend) ∧
      r'.rfDet = r.rfDet

/-- R158: an unrecognized `RF_STATE` code re-arms at the next TICK AtRest, whatever the line. -/
def Obligations.TickRecoversQualifier : Prop :=
  ∀ (s : State) (r : Regs) (l : Bit), s.block = .running r → r.posState = 0#3 →
    4 ≤ r.rfState.toNat →
    ∃ r', exec (.tick l) s = .next { s with block := .running r' } ∧
      r'.rfCnt = 0#16 ∧ r'.rfDet = r.rfDet ∧
      (if s.cfg.edgePendingMode = .latch ∧ r.edgePend = 1#1 then
          r'.rfState = 1#3 ∧ r'.edgeEn = 0#1 ∧ r'.edgePend = 0#1
        else r'.rfState = 0#3 ∧ r'.edgeEn = 1#1 ∧ r'.edgePend = r.edgePend)

/-- R161: an armed qualifier that sees exactly `COUNTHIGH` HIGH ticks and `COUNTLOW` LOW ticks while
AtRest detects, at the last of them and not before. -/
def Obligations.CleanSignalIsDetected : Prop :=
  ∀ (s : State) (r : Regs), s.block = .running r → s.cfg.WellFormed → r.posState = 0#3 →
    r.edgeEn = 1#1 → 1 ≤ s.cfg.countHigh → 1 ≤ s.cfg.countLow →
    ∀ n ≤ s.cfg.countHigh + s.cfg.countLow,
      ∃ t r',
        execAll (.edge :: (List.replicate s.cfg.countHigh (Instr.tick 1#1) ++
          List.replicate s.cfg.countLow (Instr.tick 0#1)).take n) s = .next t ∧
        t.block = .running r' ∧
        (if n < s.cfg.countHigh + s.cfg.countLow then r'.rfDet = r.rfDet
          else r'.rfDet = 1#1 ∧ r'.rfState = 3#3)

/-- R162: a high run of `COUNTHIGH - COUNTOLER - 1` ticks that then drops is no detection. -/
def Obligations.ShortHighRunIsNotDetected : Prop :=
  ∀ (s : State) (r : Regs) (h : Nat), s.block = .running r → s.cfg.WellFormed → r.posState = 0#3 →
    r.edgeEn = 1#1 → h + s.cfg.countOler + 1 = s.cfg.countHigh →
    ∃ t r', execAll (.edge :: (List.replicate h (Instr.tick 1#1) ++ [.tick 0#1])) s = .next t ∧
      t.block = .running r' ∧ r'.rfDet = 0#1 ∧ r'.rfState = 3#3

/-- R164: the outcome of one clean pulse of `h` HIGH ticks, `m` LOW ticks and a HIGH tick, with the
TICK that writes it. Its bound: the block is as R46 says at the start. -/
def Obligations.CleanPulseOutcome : Prop :=
  ∀ (s : State) (r : Regs) (h m : Nat), s.block = .running r → StateInv s → r.posState = 0#3 →
    r.edgeEn = 1#1 → 1 ≤ s.cfg.countHigh → 1 ≤ s.cfg.countLow → 1 ≤ h → 1 ≤ m →
    let CH := s.cfg.countHigh
    let CL := s.cfg.countLow
    let CT := s.cfg.countOler
    let out : Nat × Bool :=
      if CH < h then (CH + 1, decide (CL ≤ CT))
      else if h = CH then
        if CL ≤ m then (h + CL, true) else (h + m + 1, decide (CL ≤ m + CT))
      else if CH ≤ h + CT then
        if CL ≤ m - 1 then (h + CL + 1, true) else (h + m + 1, decide (CL ≤ m - 1 + CT))
      else (h + 1, false)
    ∀ n ≤ h + m + 1,
      ∃ t r',
        execAll (.edge :: (List.replicate h (Instr.tick 1#1) ++ List.replicate m (Instr.tick 0#1) ++
          [Instr.tick 1#1]).take n) s = .next t ∧
        t.block = .running r' ∧
        r'.rfDet = (if n < out.1 then r.rfDet else if out.2 then 1#1 else 0#1)

/-- R166: `RF_DET` changes only in a TICK that leaves DetectHigh or DetectLow for DetectEnd. -/
def Obligations.DetectionChangesOnlyOnEntryToDetectEnd : Prop :=
  ∀ (i : Instr) (s t : State) (r r' : Regs), i ≠ .reset → s.block = .running r →
    exec i s = .next t → t.block = .running r' → r'.rfDet ≠ r.rfDet →
    (∃ l, i = .tick l) ∧ (r.rfState = 1#3 ∨ r.rfState = 2#3) ∧ r'.rfState = 3#3

/-- R160, R28: every transition of the qualifier sets the run-length counter to 0. -/
def Obligations.QualifierTransitionClearsRunLength : Prop :=
  ∀ (i : Instr) (s t : State) (r r' : Regs), s.block = .running r →
    exec i s = .next t → t.block = .running r' → r'.rfState ≠ r.rfState → r'.rfCnt = 0#16

/-! ### EDGE -/

/-- R151: EDGE arms, keeps the edge or drops it, and writes nothing else, whatever the ramp
controller does. -/
def Obligations.EdgeArmsKeepsOrDrops : Prop :=
  ∀ (s : State) (r : Regs), s.block = .running r →
    exec .edge s = .next { s with
      block := .running
        (if r.edgeEn = 1#1 then { r with rfState := 1#3, rfCnt := 0#16, edgeEn := 0#1 }
          else if s.cfg.edgePendingMode = .latch then { r with edgePend := 1#1 }
          else r) }

/-! ### FG: command confirmation -/

/-- R181: Idle. -/
def Obligations.FgInConfirmationIdle : Prop :=
  ∀ (s : State) (r : Regs) (b : Bit), s.block = .running r → s.cfg.WellFormed → r.ccState = 0#3 →
    ∃ r', exec (.fg b) s = .next { s with block := .running r' } ∧
      (if r.rfDet = 1#1 ∧ r.posState = 0#3 then
          r'.ccState = 1#3 ∧ r'.ccTimer.toNat = s.cfg.tValidate
        else r'.ccState = 0#3 ∧ r'.ccTimer = r.ccTimer) ∧
      r'.ind = r.ind ∧ r'.cmd = (if MotionDone r then 0#1 else r.cmd)

/-- R182: Validating; the drop test comes before the timer test. -/
def Obligations.FgInValidating : Prop :=
  ∀ (s : State) (r : Regs) (b : Bit), s.block = .running r → s.cfg.WellFormed → r.ccState = 1#3 →
    ∃ r', exec (.fg b) s = .next { s with block := .running r' } ∧
      (if r.rfDet = 0#1 then r'.ccState = 0#3 ∧ r'.ccTimer = r.ccTimer ∧ r'.ind = r.ind
        else if r.ccTimer = 0#16 then
          r'.ccState = 2#3 ∧ r'.ccTimer.toNat = s.cfg.tWaitEnd ∧ r'.ind = 1#1
        else r'.ccState = 1#3 ∧ r'.ccTimer = r.ccTimer ∧ r'.ind = r.ind) ∧
      r'.cmd = (if MotionDone r then 0#1 else r.cmd)

/-- R183: WaitingForEnd; the command emitted is kept but where the same FG completes a motion (R124,
R125, R137). -/
def Obligations.FgInWaitingForEnd : Prop :=
  ∀ (s : State) (r : Regs) (b : Bit), s.block = .running r → s.cfg.WellFormed → r.ccState = 2#3 →
    ∃ r', exec (.fg b) s = .next { s with block := .running r' } ∧
      if r.rfDet = 1#1 then
        r'.ccState = 2#3 ∧ r'.ccTimer.toNat = s.cfg.tWaitEnd ∧ r'.ind = r.ind ∧
          r'.cmd = (if MotionDone r then 0#1 else r.cmd)
      else if r.ccTimer = 0#16 then
        r'.ccState = 3#3 ∧ r'.ccTimer.toNat = s.cfg.tIgnore ∧ r'.ind = 0#1 ∧
          r'.cmd = (if MotionDone r then 0#1 else 1#1)
      else r'.ccState = 2#3 ∧ r'.ccTimer = r.ccTimer ∧ r'.ind = r.ind ∧
        r'.cmd = (if MotionDone r then 0#1 else r.cmd)

/-- R184: Ignoring. -/
def Obligations.FgInIgnoring : Prop :=
  ∀ (s : State) (r : Regs) (b : Bit), s.block = .running r → r.ccState = 3#3 →
    ∃ r', exec (.fg b) s = .next { s with block := .running r' } ∧
      (if r.ccTimer = 0#16 then r'.ccState = 0#3 ∧ r'.cmd = 0#1
        else r'.ccState = 3#3 ∧ r'.cmd = (if MotionDone r then 0#1 else r.cmd)) ∧
      r'.ccTimer = r.ccTimer ∧ r'.ind = r.ind

/-- R185: recovery from an unrecognized `CC_STATE` code. -/
def Obligations.FgRecoversConfirmation : Prop :=
  ∀ (s : State) (r : Regs) (b : Bit), s.block = .running r → 4 ≤ r.ccState.toNat →
    ∃ r', exec (.fg b) s = .next { s with block := .running r' } ∧
      r'.ccState = 0#3 ∧ r'.ccTimer = 0#16 ∧ r'.ind = r.ind ∧ r'.prescCnt = r.prescCnt ∧
      r'.cmd = (if MotionDone r then 0#1 else r.cmd)

/-- R279: once the RF line brings no more edges, a detection left standing in WaitingForEnd stays:
the indicator stays on and no command comes, whatever TICK, FG and OBS follow. -/
def Obligations.StuckDetectionNeverConfirms : Prop :=
  ∀ (is : List Instr) (s : State) (r : Regs), s.block = .running r → StateInv s → r.rfState = 0#3 →
    r.rfDet = 1#1 → r.ccState = 2#3 → .reset ∉ is → .edge ∉ is →
    ∃ t r', execAll is s = .next t ∧ t.block = .running r' ∧
      r'.rfDet = 1#1 ∧ r'.ccState = 2#3 ∧ r'.ind = 1#1 ∧ r'.cmd = 0#1

/-! ### FG: the ramp controller -/

/-- R121, R122, R123: AtRest. `CMD` is read after the CC_STEP of the same FG (R218) and not cleared. -/
def Obligations.FgAtRest : Prop :=
  ∀ (s : State) (r : Regs) (b : Bit), s.block = .running r → s.cfg.WellFormed → r.posState = 0#3 →
    let c := r.dcCur.toNat
    let t :=
      if c = s.cfg.posStart then s.cfg.posEnd
      else if c < s.cfg.posStart then s.cfg.posStart
      else if c = s.cfg.posEnd then s.cfg.posStart
      else s.cfg.posEnd
    ∃ r', exec (.fg b) s = .next { s with block := .running r' } ∧
      (if b = 1#1 ∨ cmdAtPosStep r = 1#1 then
          r'.dcTgt.toNat = t ∧ r'.posState = (if c < t then 1#3 else 2#3)
        else r'.dcTgt = r.dcTgt ∧ r'.posState = 0#3) ∧
      r'.dcCur = r.dcCur ∧ r'.posDelay = r.posDelay ∧ r'.cmd = cmdAtPosStep r

/-- R124: MovingUp. -/
def Obligations.FgInMovingUp : Prop :=
  ∀ (s : State) (r : Regs) (b : Bit), s.block = .running r → s.cfg.WellFormed → r.posState = 1#3 →
    ∃ r', exec (.fg b) s = .next { s with block := .running r' } ∧ r'.dcTgt = r.dcTgt ∧
      if r.dcCur = r.dcTgt then
        r'.cmd = 0#1 ∧ r'.posState = 0#3 ∧ r'.dcCur = r.dcCur ∧ r'.posDelay = r.posDelay
      else
        r'.dcCur.toNat =
          (if s.cfg.maxStep ≤ r.dcCur.toNat then s.cfg.maxStep else r.dcCur.toNat + 1) ∧
        r'.posDelay.toNat = s.cfg.speed ∧ r'.posState = 3#3 ∧ r'.cmd = cmdAtPosStep r

/-- R125: MovingDown. -/
def Obligations.FgInMovingDown : Prop :=
  ∀ (s : State) (r : Regs) (b : Bit), s.block = .running r → s.cfg.WellFormed → r.posState = 2#3 →
    ∃ r', exec (.fg b) s = .next { s with block := .running r' } ∧ r'.dcTgt = r.dcTgt ∧
      if r.dcCur = r.dcTgt then
        r'.cmd = 0#1 ∧ r'.posState = 0#3 ∧ r'.dcCur = r.dcCur ∧ r'.posDelay = r.posDelay
      else
        r'.dcCur.toNat = (if r.dcCur.toNat = 0 then 0 else r.dcCur.toNat - 1) ∧
        r'.posDelay.toNat = s.cfg.speed ∧ r'.posState = 4#3 ∧ r'.cmd = cmdAtPosStep r

/-- R126, R127: the Waiting states hold until the countdown is 0 and change no duty cycle. -/
def Obligations.FgInWaiting : Prop :=
  ∀ (s : State) (r : Regs) (b : Bit), s.block = .running r →
    r.posState = 3#3 ∨ r.posState = 4#3 →
    ∃ r', exec (.fg b) s = .next { s with block := .running r' } ∧
      r'.posState = (if r.posDelay = 0#16 then if r.posState = 3#3 then 1#3 else 2#3
        else r.posState) ∧
      r'.dcCur = r.dcCur ∧ r'.dcTgt = r.dcTgt ∧ r'.posDelay = r.posDelay ∧ r'.cmd = cmdAtPosStep r

/-- R128: recovery from an unrecognized `POS_STATE` code. -/
def Obligations.FgRecoversRampController : Prop :=
  ∀ (s : State) (r : Regs) (b : Bit), s.block = .running r → 5 ≤ r.posState.toNat →
    ∃ r', exec (.fg b) s = .next { s with block := .running r' } ∧
      r'.posState = 0#3 ∧ r'.posDelay = 0#16 ∧ r'.dcCur = r.dcCur ∧ r'.dcTgt = r.dcTgt ∧
      r'.cmd = cmdAtPosStep r

/-- R218: CC_STEP runs first. (a) The command it emits starts the motion in the same FG; (b) its Idle
test reads AtRest before POS_STEP leaves it; the other order gives other registers. -/
def Obligations.ConfirmationRunsBeforeTheRamp : Prop :=
  (∀ (s : State) (r : Regs) (b : Bit), s.block = .running r → r.posState = 0#3 → r.ccState = 2#3 →
    r.rfDet = 0#1 → r.ccTimer = 0#16 →
    ∃ r', exec (.fg b) s = .next { s with block := .running r' } ∧ r'.cmd = 1#1 ∧
      r'.ccState = 3#3 ∧ r'.posState ≠ 0#3) ∧
  (∀ (s : State) (r : Regs), s.block = .running r → r.posState = 0#3 → r.ccState = 0#3 →
    r.rfDet = 1#1 →
    ∃ r', exec (.fg 1#1) s = .next { s with block := .running r' } ∧ r'.ccState = 1#3 ∧
      r'.posState ≠ 0#3) ∧
  ∃ (cfg : Config) (b : Bit) (r : Regs),
    posStep cfg b (ccStep cfg r) ≠ ccStep cfg (posStep cfg b r)

/-- R130: outside AtRest neither the button nor `CMD` is read: a press changes nothing, and states
that differ in `CMD` alone give states that differ in `CMD` alone. -/
def Obligations.TriggersAreIgnoredWhileMoving : Prop :=
  ∀ (s : State) (r : Regs), s.block = .running r → r.posState ≠ 0#3 →
    exec (.fg 1#1) s = exec (.fg 0#1) s ∧
    ∀ b c : Bit, ∃ r₁ r₂,
      exec (.fg b) s = .next { s with block := .running r₁ } ∧
      exec (.fg b) { s with block := .running { r with cmd := c } } =
        .next { s with block := .running r₂ } ∧
      r₂ = { r₁ with cmd := r₂.cmd }

/-- R134: only an FG in MovingUp or MovingDown changes the duty cycle, and by one unit at most. Its
bound: in MovingUp `DC_CUR` is within `MAX_STEP`, which is the invariant R46(b). -/
def Obligations.DutyCycleSlewsByOneUnit : Prop :=
  ∀ (i : Instr) (s t : State) (r r' : Regs), i ≠ .reset → s.block = .running r → StateInv s →
    exec i s = .next t → t.block = .running r' →
    r'.dcCur.toNat ≤ r.dcCur.toNat + 1 ∧ r.dcCur.toNat ≤ r'.dcCur.toNat + 1 ∧
    (r'.dcCur ≠ r.dcCur → (∃ b, i = .fg b) ∧ (r.posState = 1#3 ∨ r.posState = 2#3))

/-- R186: `CMD` is set only by R183 and cleared only by R184, R124 and R125, RESET apart. -/
def Obligations.CommandIsSetAndClearedOnlyWhereSaid : Prop :=
  ∀ (i : Instr) (s t : State) (r r' : Regs), i ≠ .reset → s.block = .running r →
    exec i s = .next t → t.block = .running r' →
    (r.cmd = 0#1 → r'.cmd = 1#1 →
      (∃ b, i = .fg b) ∧ r.ccState = 2#3 ∧ r.rfDet = 0#1 ∧ r.ccTimer = 0#16) ∧
    (r.cmd = 1#1 → r'.cmd = 0#1 →
      (∃ b, i = .fg b) ∧ ((r.ccState = 3#3 ∧ r.ccTimer = 0#16) ∨ MotionDone r))

/-- R133, R132: under the STEP schedule a motion of `k` units triggered by the button takes its steps
exactly `SPEED + 1` TICKs apart, the first in the first STEP, and is AtRest at the target at the end
of exactly `1 + k * (SPEED + 1)` STEPs, not before. -/
def Obligations.MotionUnderStepSchedule : Prop :=
  ∀ (s : State) (r : Regs) (l : Bit), s.block = .running r → StateInv s → r.posState = 0#3 →
    let d := r.dcCur.toNat
    let g := selectTarget s.cfg d
    let k := (g - d) + (d - g)
    let total := 1 + k * (s.cfg.speed + 1)
    ∀ n ≤ total,
      ∃ t r', execAll (.fg 1#1 :: expand (.steps n l)) s = .next t ∧ t.block = .running r' ∧
        (r'.posState = 0#3 ↔ n = total) ∧ r'.dcTgt.toNat = g ∧
        (r'.dcCur.toNat - d) + (d - r'.dcCur.toNat) =
          min k ((n + s.cfg.speed) / (s.cfg.speed + 1)) ∧
        (n = total → r'.dcCur = r'.dcTgt)

/-! ### OBS -/

/-- R214, R20: OBS returns the whole register at its index, zero-extended, and changes nothing of the
block; while Unreset it is Refused. -/
def Obligations.ObsReturnsTheRegister : Prop :=
  (∀ (s : State) (i : RegIndex), s.block = .unreset →
    exec (.obs i) s = .refused (.notReset (encode (.obs i)))) ∧
  ∀ (s : State) (r : Regs), s.block = .running r →
    let gives := fun (i : RegIndex) (v : Word) =>
      exec (.obs i) s = .next { s with obsLog := s.obsLog ++ [v] }
    gives 0#4 r.pwmCnt ∧ gives 1#4 (r.pwmOut.zeroExtend 16) ∧ gives 2#4 r.dcCur ∧
    gives 3#4 r.dcTgt ∧ gives 4#4 r.posDelay ∧ gives 5#4 (r.posState.zeroExtend 16) ∧
    gives 6#4 (r.rfState.zeroExtend 16) ∧ gives 7#4 r.rfCnt ∧ gives 8#4 (r.rfDet.zeroExtend 16) ∧
    gives 9#4 (r.edgeEn.zeroExtend 16) ∧ gives 10#4 (r.ccState.zeroExtend 16) ∧
    gives 11#4 r.ccTimer ∧ gives 12#4 r.prescCnt ∧ gives 13#4 (r.cmd.zeroExtend 16) ∧
    gives 14#4 (r.ind.zeroExtend 16) ∧ gives 15#4 (r.edgePend.zeroExtend 16)

/-! ### The whole machine -/

/-- R45: no operation writes a register outside its write set, nor anything of the state but the
block, OBS apart, which only adds the value it returns. -/
def Obligations.OperationsWriteOnlyTheirWriteSet : Prop :=
  ∀ (i : Instr) (s t : State) (r : Regs), s.block = .running r → exec i s = .next t →
    ∃ r', t.block = .running r' ∧ t.cfg = s.cfg ∧ t.pending = s.pending ∧
      t.refusedMark = s.refusedMark ∧
      ((∀ x, i ≠ .obs x) → t.obsLog = s.obsLog) ∧
      ((∃ x, i = .obs x) → r' = r ∧ ∃ v, t.obsLog = s.obsLog ++ [v]) ∧
      ((∃ l, i = .tick l) →
        r'.dcCur = r.dcCur ∧ r'.dcTgt = r.dcTgt ∧ r'.posState = r.posState ∧
        r'.ccState = r.ccState ∧ r'.cmd = r.cmd ∧ r'.ind = r.ind) ∧
      (i = .edge →
        r'.pwmCnt = r.pwmCnt ∧ r'.pwmOut = r.pwmOut ∧ r'.dcCur = r.dcCur ∧ r'.dcTgt = r.dcTgt ∧
        r'.posDelay = r.posDelay ∧ r'.posState = r.posState ∧ r'.rfDet = r.rfDet ∧
        r'.ccState = r.ccState ∧ r'.ccTimer = r.ccTimer ∧ r'.prescCnt = r.prescCnt ∧
        r'.cmd = r.cmd ∧ r'.ind = r.ind) ∧
      ((∃ b, i = .fg b) →
        r'.pwmCnt = r.pwmCnt ∧ r'.pwmOut = r.pwmOut ∧ r'.rfState = r.rfState ∧
        r'.rfCnt = r.rfCnt ∧ r'.rfDet = r.rfDet ∧ r'.edgeEn = r.edgeEn ∧
        r'.prescCnt = r.prescCnt ∧ r'.edgePend = r.edgePend)

/-- R46, R42, R24, R28: every step keeps the invariant of the registers, from every state that meets
it. -/
def Obligations.StepKeepsInvariant : Prop :=
  ∀ s t : State, StateInv s → step s = .next t → StateInv t

/-- R46, R270: the state after reset meets the invariant, under every well-formed configuration, and
so does the state a RESET leaves, from whatever state it comes. The first clause is about RC1, the
configuration the model chose for `State.reset` (log entry 2). -/
def Obligations.ResetMeetsInvariant : Prop :=
  StateInv State.reset ∧ (∀ c : Config, c.WellFormed → StateInv (State.resetWith c)) ∧
  ∀ s t : State, exec .reset s = .next t → StateInv t

/-- R46: every state of every run from power-on, at every operation boundary, meets the invariant,
whatever words the host issues. -/
def Obligations.RunsFromPowerOnMeetInvariant : Prop :=
  ∀ (c : Config) (ws : List OpWord), StateInv (runWords ws (State.powerOn c))
end

