-- ==== Sys2Proof/Laws/State.lean ====
section
/-! SUPPORT. The small lemmas of the state's updates, one per field per update, each true by `rfl`,
so that no later proof unfolds a record update. -/

namespace Sys2Proof.Machine

section State_withRegs

@[simp] theorem State.withRegs_cfg (s : State) (r : Regs) : (s.withRegs r).cfg = s.cfg := rfl
@[simp] theorem State.withRegs_block (s : State) (r : Regs) : (s.withRegs r).block = .running r := rfl
@[simp] theorem State.withRegs_pending (s : State) (r : Regs) : (s.withRegs r).pending = s.pending := rfl
@[simp] theorem State.withRegs_obsLog (s : State) (r : Regs) : (s.withRegs r).obsLog = s.obsLog := rfl
@[simp] theorem State.withRegs_refusedMark (s : State) (r : Regs) : (s.withRegs r).refusedMark = s.refusedMark := rfl

end State_withRegs

section State_logObs

@[simp] theorem State.logObs_cfg (s : State) (v : Word) : (s.logObs v).cfg = s.cfg := rfl
@[simp] theorem State.logObs_block (s : State) (v : Word) : (s.logObs v).block = s.block := rfl
@[simp] theorem State.logObs_pending (s : State) (v : Word) : (s.logObs v).pending = s.pending := rfl
@[simp] theorem State.logObs_obsLog (s : State) (v : Word) : (s.logObs v).obsLog = s.obsLog ++ [v] := rfl
@[simp] theorem State.logObs_refusedMark (s : State) (v : Word) : (s.logObs v).refusedMark = s.refusedMark := rfl

end State_logObs

section issue

@[simp] theorem issue_cfg (ws : List OpWord) (s : State) : (issue ws s).cfg = s.cfg := rfl
@[simp] theorem issue_block (ws : List OpWord) (s : State) : (issue ws s).block = s.block := rfl
@[simp] theorem issue_pending (ws : List OpWord) (s : State) : (issue ws s).pending = s.pending ++ ws := rfl
@[simp] theorem issue_obsLog (ws : List OpWord) (s : State) : (issue ws s).obsLog = s.obsLog := rfl
@[simp] theorem issue_refusedMark (ws : List OpWord) (s : State) : (issue ws s).refusedMark = s.refusedMark := rfl

end issue

section afterRefusal

@[simp] theorem afterRefusal_cfg (s : State) : (afterRefusal s).cfg = s.cfg := rfl
@[simp] theorem afterRefusal_block (s : State) : (afterRefusal s).block = s.block := rfl
@[simp] theorem afterRefusal_pending (s : State) : (afterRefusal s).pending = s.pending.tail := rfl
@[simp] theorem afterRefusal_obsLog (s : State) : (afterRefusal s).obsLog = s.obsLog := rfl
@[simp] theorem afterRefusal_refusedMark (s : State) : (afterRefusal s).refusedMark = true := rfl

end afterRefusal

section placeWord

@[simp] theorem placeWord_cfg (s : State) (w : OpWord) : (placeWord s w).cfg = s.cfg := rfl
@[simp] theorem placeWord_block (s : State) (w : OpWord) : (placeWord s w).block = s.block := rfl
@[simp] theorem placeWord_pending (s : State) (w : OpWord) : (placeWord s w).pending = w :: s.pending.tail := rfl
@[simp] theorem placeWord_obsLog (s : State) (w : OpWord) : (placeWord s w).obsLog = s.obsLog := rfl
@[simp] theorem placeWord_refusedMark (s : State) (w : OpWord) : (placeWord s w).refusedMark = s.refusedMark := rfl

end placeWord

section arm

@[simp] theorem arm_pwmCnt (r : Regs) : (arm r).pwmCnt = r.pwmCnt := rfl
@[simp] theorem arm_pwmOut (r : Regs) : (arm r).pwmOut = r.pwmOut := rfl
@[simp] theorem arm_dcCur (r : Regs) : (arm r).dcCur = r.dcCur := rfl
@[simp] theorem arm_dcTgt (r : Regs) : (arm r).dcTgt = r.dcTgt := rfl
@[simp] theorem arm_posDelay (r : Regs) : (arm r).posDelay = r.posDelay := rfl
@[simp] theorem arm_posState (r : Regs) : (arm r).posState = r.posState := rfl
@[simp] theorem arm_rfState (r : Regs) : (arm r).rfState = 1#3 := rfl
@[simp] theorem arm_rfCnt (r : Regs) : (arm r).rfCnt = 0#16 := rfl
@[simp] theorem arm_rfDet (r : Regs) : (arm r).rfDet = r.rfDet := rfl
@[simp] theorem arm_edgeEn (r : Regs) : (arm r).edgeEn = 0#1 := rfl
@[simp] theorem arm_ccState (r : Regs) : (arm r).ccState = r.ccState := rfl
@[simp] theorem arm_ccTimer (r : Regs) : (arm r).ccTimer = r.ccTimer := rfl
@[simp] theorem arm_prescCnt (r : Regs) : (arm r).prescCnt = r.prescCnt := rfl
@[simp] theorem arm_cmd (r : Regs) : (arm r).cmd = r.cmd := rfl
@[simp] theorem arm_ind (r : Regs) : (arm r).ind = r.ind := rfl
@[simp] theorem arm_edgePend (r : Regs) : (arm r).edgePend = r.edgePend := rfl

end arm

section completeMotion

@[simp] theorem completeMotion_pwmCnt (r : Regs) : (completeMotion r).pwmCnt = r.pwmCnt := rfl
@[simp] theorem completeMotion_pwmOut (r : Regs) : (completeMotion r).pwmOut = r.pwmOut := rfl
@[simp] theorem completeMotion_dcCur (r : Regs) : (completeMotion r).dcCur = r.dcCur := rfl
@[simp] theorem completeMotion_dcTgt (r : Regs) : (completeMotion r).dcTgt = r.dcTgt := rfl
@[simp] theorem completeMotion_posDelay (r : Regs) : (completeMotion r).posDelay = r.posDelay := rfl
@[simp] theorem completeMotion_posState (r : Regs) : (completeMotion r).posState = 0#3 := rfl
@[simp] theorem completeMotion_rfState (r : Regs) : (completeMotion r).rfState = r.rfState := rfl
@[simp] theorem completeMotion_rfCnt (r : Regs) : (completeMotion r).rfCnt = r.rfCnt := rfl
@[simp] theorem completeMotion_rfDet (r : Regs) : (completeMotion r).rfDet = r.rfDet := rfl
@[simp] theorem completeMotion_edgeEn (r : Regs) : (completeMotion r).edgeEn = r.edgeEn := rfl
@[simp] theorem completeMotion_ccState (r : Regs) : (completeMotion r).ccState = r.ccState := rfl
@[simp] theorem completeMotion_ccTimer (r : Regs) : (completeMotion r).ccTimer = r.ccTimer := rfl
@[simp] theorem completeMotion_prescCnt (r : Regs) : (completeMotion r).prescCnt = r.prescCnt := rfl
@[simp] theorem completeMotion_cmd (r : Regs) : (completeMotion r).cmd = 0#1 := rfl
@[simp] theorem completeMotion_ind (r : Regs) : (completeMotion r).ind = r.ind := rfl
@[simp] theorem completeMotion_edgePend (r : Regs) : (completeMotion r).edgePend = r.edgePend := rfl

end completeMotion

section posRecover

@[simp] theorem posRecover_pwmCnt (r : Regs) : (posRecover r).pwmCnt = r.pwmCnt := rfl
@[simp] theorem posRecover_pwmOut (r : Regs) : (posRecover r).pwmOut = r.pwmOut := rfl
@[simp] theorem posRecover_dcCur (r : Regs) : (posRecover r).dcCur = r.dcCur := rfl
@[simp] theorem posRecover_dcTgt (r : Regs) : (posRecover r).dcTgt = r.dcTgt := rfl
@[simp] theorem posRecover_posDelay (r : Regs) : (posRecover r).posDelay = 0#16 := rfl
@[simp] theorem posRecover_posState (r : Regs) : (posRecover r).posState = 0#3 := rfl
@[simp] theorem posRecover_rfState (r : Regs) : (posRecover r).rfState = r.rfState := rfl
@[simp] theorem posRecover_rfCnt (r : Regs) : (posRecover r).rfCnt = r.rfCnt := rfl
@[simp] theorem posRecover_rfDet (r : Regs) : (posRecover r).rfDet = r.rfDet := rfl
@[simp] theorem posRecover_edgeEn (r : Regs) : (posRecover r).edgeEn = r.edgeEn := rfl
@[simp] theorem posRecover_ccState (r : Regs) : (posRecover r).ccState = r.ccState := rfl
@[simp] theorem posRecover_ccTimer (r : Regs) : (posRecover r).ccTimer = r.ccTimer := rfl
@[simp] theorem posRecover_prescCnt (r : Regs) : (posRecover r).prescCnt = r.prescCnt := rfl
@[simp] theorem posRecover_cmd (r : Regs) : (posRecover r).cmd = r.cmd := rfl
@[simp] theorem posRecover_ind (r : Regs) : (posRecover r).ind = r.ind := rfl
@[simp] theorem posRecover_edgePend (r : Regs) : (posRecover r).edgePend = r.edgePend := rfl

end posRecover

section ccRecover

@[simp] theorem ccRecover_pwmCnt (r : Regs) : (ccRecover r).pwmCnt = r.pwmCnt := rfl
@[simp] theorem ccRecover_pwmOut (r : Regs) : (ccRecover r).pwmOut = r.pwmOut := rfl
@[simp] theorem ccRecover_dcCur (r : Regs) : (ccRecover r).dcCur = r.dcCur := rfl
@[simp] theorem ccRecover_dcTgt (r : Regs) : (ccRecover r).dcTgt = r.dcTgt := rfl
@[simp] theorem ccRecover_posDelay (r : Regs) : (ccRecover r).posDelay = r.posDelay := rfl
@[simp] theorem ccRecover_posState (r : Regs) : (ccRecover r).posState = r.posState := rfl
@[simp] theorem ccRecover_rfState (r : Regs) : (ccRecover r).rfState = r.rfState := rfl
@[simp] theorem ccRecover_rfCnt (r : Regs) : (ccRecover r).rfCnt = r.rfCnt := rfl
@[simp] theorem ccRecover_rfDet (r : Regs) : (ccRecover r).rfDet = r.rfDet := rfl
@[simp] theorem ccRecover_edgeEn (r : Regs) : (ccRecover r).edgeEn = r.edgeEn := rfl
@[simp] theorem ccRecover_ccState (r : Regs) : (ccRecover r).ccState = 0#3 := rfl
@[simp] theorem ccRecover_ccTimer (r : Regs) : (ccRecover r).ccTimer = 0#16 := rfl
@[simp] theorem ccRecover_prescCnt (r : Regs) : (ccRecover r).prescCnt = r.prescCnt := rfl
@[simp] theorem ccRecover_cmd (r : Regs) : (ccRecover r).cmd = r.cmd := rfl
@[simp] theorem ccRecover_ind (r : Regs) : (ccRecover r).ind = r.ind := rfl
@[simp] theorem ccRecover_edgePend (r : Regs) : (ccRecover r).edgePend = r.edgePend := rfl

end ccRecover

section resetRegs

@[simp] theorem resetRegs_pwmCnt (c : Config) : (resetRegs c).pwmCnt = 0#16 := rfl
@[simp] theorem resetRegs_pwmOut (c : Config) : (resetRegs c).pwmOut = 0#1 := rfl
@[simp] theorem resetRegs_dcCur (c : Config) : (resetRegs c).dcCur = BitVec.ofNat 16 c.initDc := rfl
@[simp] theorem resetRegs_dcTgt (c : Config) : (resetRegs c).dcTgt = BitVec.ofNat 16 c.initDc := rfl
@[simp] theorem resetRegs_posDelay (c : Config) : (resetRegs c).posDelay = 0#16 := rfl
@[simp] theorem resetRegs_posState (c : Config) : (resetRegs c).posState = 0#3 := rfl
@[simp] theorem resetRegs_rfState (c : Config) : (resetRegs c).rfState = 0#3 := rfl
@[simp] theorem resetRegs_rfCnt (c : Config) : (resetRegs c).rfCnt = 0#16 := rfl
@[simp] theorem resetRegs_rfDet (c : Config) : (resetRegs c).rfDet = 0#1 := rfl
@[simp] theorem resetRegs_edgeEn (c : Config) : (resetRegs c).edgeEn = 1#1 := rfl
@[simp] theorem resetRegs_ccState (c : Config) : (resetRegs c).ccState = 0#3 := rfl
@[simp] theorem resetRegs_ccTimer (c : Config) : (resetRegs c).ccTimer = 0#16 := rfl
@[simp] theorem resetRegs_prescCnt (c : Config) : (resetRegs c).prescCnt = 0#16 := rfl
@[simp] theorem resetRegs_cmd (c : Config) : (resetRegs c).cmd = 0#1 := rfl
@[simp] theorem resetRegs_ind (c : Config) : (resetRegs c).ind = 0#1 := rfl
@[simp] theorem resetRegs_edgePend (c : Config) : (resetRegs c).edgePend = 0#1 := rfl

end resetRegs

/-- RESET's register values (44_operations.md R215) are the reset column of the register table
(10_state.md R20). -/
theorem resetRegs_eq_table (c : Config) : resetRegs c = Regs.reset c := rfl

@[simp] theorem withRegs_withRegs (s : State) (r r' : Regs) : (s.withRegs r).withRegs r' = s.withRegs r' :=
  rfl

end Sys2Proof.Machine
end

