-- ==== Sys2Proof/Laws/Frames.lean ====
section
/-! SUPPORT. What each unit step leaves unchanged: one lemma per register that the step does not write
(10_state.md R45, 44_operations.md R217). -/

namespace Sys2Proof.Machine

section pwmStep

@[simp] theorem pwmStep_dcCur (cfg : Config) (r : Regs) : (pwmStep cfg r).dcCur = r.dcCur := by
  unfold pwmStep; dsimp only; split <;> rfl

@[simp] theorem pwmStep_dcTgt (cfg : Config) (r : Regs) : (pwmStep cfg r).dcTgt = r.dcTgt := by
  unfold pwmStep; dsimp only; split <;> rfl

@[simp] theorem pwmStep_posDelay (cfg : Config) (r : Regs) : (pwmStep cfg r).posDelay = r.posDelay := by
  unfold pwmStep; dsimp only; split <;> rfl

@[simp] theorem pwmStep_posState (cfg : Config) (r : Regs) : (pwmStep cfg r).posState = r.posState := by
  unfold pwmStep; dsimp only; split <;> rfl

@[simp] theorem pwmStep_rfState (cfg : Config) (r : Regs) : (pwmStep cfg r).rfState = r.rfState := by
  unfold pwmStep; dsimp only; split <;> rfl

@[simp] theorem pwmStep_rfCnt (cfg : Config) (r : Regs) : (pwmStep cfg r).rfCnt = r.rfCnt := by
  unfold pwmStep; dsimp only; split <;> rfl

@[simp] theorem pwmStep_rfDet (cfg : Config) (r : Regs) : (pwmStep cfg r).rfDet = r.rfDet := by
  unfold pwmStep; dsimp only; split <;> rfl

@[simp] theorem pwmStep_edgeEn (cfg : Config) (r : Regs) : (pwmStep cfg r).edgeEn = r.edgeEn := by
  unfold pwmStep; dsimp only; split <;> rfl

@[simp] theorem pwmStep_ccState (cfg : Config) (r : Regs) : (pwmStep cfg r).ccState = r.ccState := by
  unfold pwmStep; dsimp only; split <;> rfl

@[simp] theorem pwmStep_ccTimer (cfg : Config) (r : Regs) : (pwmStep cfg r).ccTimer = r.ccTimer := by
  unfold pwmStep; dsimp only; split <;> rfl

@[simp] theorem pwmStep_prescCnt (cfg : Config) (r : Regs) : (pwmStep cfg r).prescCnt = r.prescCnt := by
  unfold pwmStep; dsimp only; split <;> rfl

@[simp] theorem pwmStep_cmd (cfg : Config) (r : Regs) : (pwmStep cfg r).cmd = r.cmd := by
  unfold pwmStep; dsimp only; split <;> rfl

@[simp] theorem pwmStep_ind (cfg : Config) (r : Regs) : (pwmStep cfg r).ind = r.ind := by
  unfold pwmStep; dsimp only; split <;> rfl

@[simp] theorem pwmStep_edgePend (cfg : Config) (r : Regs) : (pwmStep cfg r).edgePend = r.edgePend := by
  unfold pwmStep; dsimp only; split <;> rfl

end pwmStep

section countdownStep

@[simp] theorem countdownStep_pwmCnt (cfg : Config) (r : Regs) : (countdownStep cfg r).pwmCnt = r.pwmCnt := by
  unfold countdownStep; split <;> rfl

@[simp] theorem countdownStep_pwmOut (cfg : Config) (r : Regs) : (countdownStep cfg r).pwmOut = r.pwmOut := by
  unfold countdownStep; split <;> rfl

@[simp] theorem countdownStep_dcCur (cfg : Config) (r : Regs) : (countdownStep cfg r).dcCur = r.dcCur := by
  unfold countdownStep; split <;> rfl

@[simp] theorem countdownStep_dcTgt (cfg : Config) (r : Regs) : (countdownStep cfg r).dcTgt = r.dcTgt := by
  unfold countdownStep; split <;> rfl

@[simp] theorem countdownStep_posState (cfg : Config) (r : Regs) : (countdownStep cfg r).posState = r.posState := by
  unfold countdownStep; split <;> rfl

@[simp] theorem countdownStep_rfState (cfg : Config) (r : Regs) : (countdownStep cfg r).rfState = r.rfState := by
  unfold countdownStep; split <;> rfl

@[simp] theorem countdownStep_rfCnt (cfg : Config) (r : Regs) : (countdownStep cfg r).rfCnt = r.rfCnt := by
  unfold countdownStep; split <;> rfl

@[simp] theorem countdownStep_rfDet (cfg : Config) (r : Regs) : (countdownStep cfg r).rfDet = r.rfDet := by
  unfold countdownStep; split <;> rfl

@[simp] theorem countdownStep_edgeEn (cfg : Config) (r : Regs) : (countdownStep cfg r).edgeEn = r.edgeEn := by
  unfold countdownStep; split <;> rfl

@[simp] theorem countdownStep_ccState (cfg : Config) (r : Regs) : (countdownStep cfg r).ccState = r.ccState := by
  unfold countdownStep; split <;> rfl

@[simp] theorem countdownStep_cmd (cfg : Config) (r : Regs) : (countdownStep cfg r).cmd = r.cmd := by
  unfold countdownStep; split <;> rfl

@[simp] theorem countdownStep_ind (cfg : Config) (r : Regs) : (countdownStep cfg r).ind = r.ind := by
  unfold countdownStep; split <;> rfl

@[simp] theorem countdownStep_edgePend (cfg : Config) (r : Regs) : (countdownStep cfg r).edgePend = r.edgePend := by
  unfold countdownStep; split <;> rfl

end countdownStep

section rearm

@[simp] theorem rearm_pwmCnt (cfg : Config) (r : Regs) : (rearm cfg r).pwmCnt = r.pwmCnt := by
  unfold rearm; dsimp only; split <;> rfl

@[simp] theorem rearm_pwmOut (cfg : Config) (r : Regs) : (rearm cfg r).pwmOut = r.pwmOut := by
  unfold rearm; dsimp only; split <;> rfl

@[simp] theorem rearm_dcCur (cfg : Config) (r : Regs) : (rearm cfg r).dcCur = r.dcCur := by
  unfold rearm; dsimp only; split <;> rfl

@[simp] theorem rearm_dcTgt (cfg : Config) (r : Regs) : (rearm cfg r).dcTgt = r.dcTgt := by
  unfold rearm; dsimp only; split <;> rfl

@[simp] theorem rearm_posDelay (cfg : Config) (r : Regs) : (rearm cfg r).posDelay = r.posDelay := by
  unfold rearm; dsimp only; split <;> rfl

@[simp] theorem rearm_posState (cfg : Config) (r : Regs) : (rearm cfg r).posState = r.posState := by
  unfold rearm; dsimp only; split <;> rfl

@[simp] theorem rearm_rfDet (cfg : Config) (r : Regs) : (rearm cfg r).rfDet = r.rfDet := by
  unfold rearm; dsimp only; split <;> rfl

@[simp] theorem rearm_ccState (cfg : Config) (r : Regs) : (rearm cfg r).ccState = r.ccState := by
  unfold rearm; dsimp only; split <;> rfl

@[simp] theorem rearm_ccTimer (cfg : Config) (r : Regs) : (rearm cfg r).ccTimer = r.ccTimer := by
  unfold rearm; dsimp only; split <;> rfl

@[simp] theorem rearm_prescCnt (cfg : Config) (r : Regs) : (rearm cfg r).prescCnt = r.prescCnt := by
  unfold rearm; dsimp only; split <;> rfl

@[simp] theorem rearm_cmd (cfg : Config) (r : Regs) : (rearm cfg r).cmd = r.cmd := by
  unfold rearm; dsimp only; split <;> rfl

@[simp] theorem rearm_ind (cfg : Config) (r : Regs) : (rearm cfg r).ind = r.ind := by
  unfold rearm; dsimp only; split <;> rfl

end rearm

section rfEdge

@[simp] theorem rfEdge_pwmCnt (cfg : Config) (r : Regs) : (rfEdge cfg r).pwmCnt = r.pwmCnt := by
  unfold rfEdge; split <;> [rfl; (split <;> rfl)]

@[simp] theorem rfEdge_pwmOut (cfg : Config) (r : Regs) : (rfEdge cfg r).pwmOut = r.pwmOut := by
  unfold rfEdge; split <;> [rfl; (split <;> rfl)]

@[simp] theorem rfEdge_dcCur (cfg : Config) (r : Regs) : (rfEdge cfg r).dcCur = r.dcCur := by
  unfold rfEdge; split <;> [rfl; (split <;> rfl)]

@[simp] theorem rfEdge_dcTgt (cfg : Config) (r : Regs) : (rfEdge cfg r).dcTgt = r.dcTgt := by
  unfold rfEdge; split <;> [rfl; (split <;> rfl)]

@[simp] theorem rfEdge_posDelay (cfg : Config) (r : Regs) : (rfEdge cfg r).posDelay = r.posDelay := by
  unfold rfEdge; split <;> [rfl; (split <;> rfl)]

@[simp] theorem rfEdge_posState (cfg : Config) (r : Regs) : (rfEdge cfg r).posState = r.posState := by
  unfold rfEdge; split <;> [rfl; (split <;> rfl)]

@[simp] theorem rfEdge_rfDet (cfg : Config) (r : Regs) : (rfEdge cfg r).rfDet = r.rfDet := by
  unfold rfEdge; split <;> [rfl; (split <;> rfl)]

@[simp] theorem rfEdge_ccState (cfg : Config) (r : Regs) : (rfEdge cfg r).ccState = r.ccState := by
  unfold rfEdge; split <;> [rfl; (split <;> rfl)]

@[simp] theorem rfEdge_ccTimer (cfg : Config) (r : Regs) : (rfEdge cfg r).ccTimer = r.ccTimer := by
  unfold rfEdge; split <;> [rfl; (split <;> rfl)]

@[simp] theorem rfEdge_prescCnt (cfg : Config) (r : Regs) : (rfEdge cfg r).prescCnt = r.prescCnt := by
  unfold rfEdge; split <;> [rfl; (split <;> rfl)]

@[simp] theorem rfEdge_cmd (cfg : Config) (r : Regs) : (rfEdge cfg r).cmd = r.cmd := by
  unfold rfEdge; split <;> [rfl; (split <;> rfl)]

@[simp] theorem rfEdge_ind (cfg : Config) (r : Regs) : (rfEdge cfg r).ind = r.ind := by
  unfold rfEdge; split <;> [rfl; (split <;> rfl)]

end rfEdge

section detectHighOnHigh

@[simp] theorem detectHighOnHigh_pwmCnt (cfg : Config) (r : Regs) : (detectHighOnHigh cfg r).pwmCnt = r.pwmCnt := by
  unfold detectHighOnHigh; dsimp only; split <;> rfl

@[simp] theorem detectHighOnHigh_pwmOut (cfg : Config) (r : Regs) : (detectHighOnHigh cfg r).pwmOut = r.pwmOut := by
  unfold detectHighOnHigh; dsimp only; split <;> rfl

@[simp] theorem detectHighOnHigh_dcCur (cfg : Config) (r : Regs) : (detectHighOnHigh cfg r).dcCur = r.dcCur := by
  unfold detectHighOnHigh; dsimp only; split <;> rfl

@[simp] theorem detectHighOnHigh_dcTgt (cfg : Config) (r : Regs) : (detectHighOnHigh cfg r).dcTgt = r.dcTgt := by
  unfold detectHighOnHigh; dsimp only; split <;> rfl

@[simp] theorem detectHighOnHigh_posDelay (cfg : Config) (r : Regs) : (detectHighOnHigh cfg r).posDelay = r.posDelay := by
  unfold detectHighOnHigh; dsimp only; split <;> rfl

@[simp] theorem detectHighOnHigh_posState (cfg : Config) (r : Regs) : (detectHighOnHigh cfg r).posState = r.posState := by
  unfold detectHighOnHigh; dsimp only; split <;> rfl

@[simp] theorem detectHighOnHigh_rfDet (cfg : Config) (r : Regs) : (detectHighOnHigh cfg r).rfDet = r.rfDet := by
  unfold detectHighOnHigh; dsimp only; split <;> rfl

@[simp] theorem detectHighOnHigh_edgeEn (cfg : Config) (r : Regs) : (detectHighOnHigh cfg r).edgeEn = r.edgeEn := by
  unfold detectHighOnHigh; dsimp only; split <;> rfl

@[simp] theorem detectHighOnHigh_ccState (cfg : Config) (r : Regs) : (detectHighOnHigh cfg r).ccState = r.ccState := by
  unfold detectHighOnHigh; dsimp only; split <;> rfl

@[simp] theorem detectHighOnHigh_ccTimer (cfg : Config) (r : Regs) : (detectHighOnHigh cfg r).ccTimer = r.ccTimer := by
  unfold detectHighOnHigh; dsimp only; split <;> rfl

@[simp] theorem detectHighOnHigh_prescCnt (cfg : Config) (r : Regs) : (detectHighOnHigh cfg r).prescCnt = r.prescCnt := by
  unfold detectHighOnHigh; dsimp only; split <;> rfl

@[simp] theorem detectHighOnHigh_cmd (cfg : Config) (r : Regs) : (detectHighOnHigh cfg r).cmd = r.cmd := by
  unfold detectHighOnHigh; dsimp only; split <;> rfl

@[simp] theorem detectHighOnHigh_ind (cfg : Config) (r : Regs) : (detectHighOnHigh cfg r).ind = r.ind := by
  unfold detectHighOnHigh; dsimp only; split <;> rfl

@[simp] theorem detectHighOnHigh_edgePend (cfg : Config) (r : Regs) : (detectHighOnHigh cfg r).edgePend = r.edgePend := by
  unfold detectHighOnHigh; dsimp only; split <;> rfl

end detectHighOnHigh

section detectHighOnLow

@[simp] theorem detectHighOnLow_pwmCnt (cfg : Config) (r : Regs) : (detectHighOnLow cfg r).pwmCnt = r.pwmCnt := by
  unfold detectHighOnLow; split <;> rfl

@[simp] theorem detectHighOnLow_pwmOut (cfg : Config) (r : Regs) : (detectHighOnLow cfg r).pwmOut = r.pwmOut := by
  unfold detectHighOnLow; split <;> rfl

@[simp] theorem detectHighOnLow_dcCur (cfg : Config) (r : Regs) : (detectHighOnLow cfg r).dcCur = r.dcCur := by
  unfold detectHighOnLow; split <;> rfl

@[simp] theorem detectHighOnLow_dcTgt (cfg : Config) (r : Regs) : (detectHighOnLow cfg r).dcTgt = r.dcTgt := by
  unfold detectHighOnLow; split <;> rfl

@[simp] theorem detectHighOnLow_posDelay (cfg : Config) (r : Regs) : (detectHighOnLow cfg r).posDelay = r.posDelay := by
  unfold detectHighOnLow; split <;> rfl

@[simp] theorem detectHighOnLow_posState (cfg : Config) (r : Regs) : (detectHighOnLow cfg r).posState = r.posState := by
  unfold detectHighOnLow; split <;> rfl

@[simp] theorem detectHighOnLow_edgeEn (cfg : Config) (r : Regs) : (detectHighOnLow cfg r).edgeEn = r.edgeEn := by
  unfold detectHighOnLow; split <;> rfl

@[simp] theorem detectHighOnLow_ccState (cfg : Config) (r : Regs) : (detectHighOnLow cfg r).ccState = r.ccState := by
  unfold detectHighOnLow; split <;> rfl

@[simp] theorem detectHighOnLow_ccTimer (cfg : Config) (r : Regs) : (detectHighOnLow cfg r).ccTimer = r.ccTimer := by
  unfold detectHighOnLow; split <;> rfl

@[simp] theorem detectHighOnLow_prescCnt (cfg : Config) (r : Regs) : (detectHighOnLow cfg r).prescCnt = r.prescCnt := by
  unfold detectHighOnLow; split <;> rfl

@[simp] theorem detectHighOnLow_cmd (cfg : Config) (r : Regs) : (detectHighOnLow cfg r).cmd = r.cmd := by
  unfold detectHighOnLow; split <;> rfl

@[simp] theorem detectHighOnLow_ind (cfg : Config) (r : Regs) : (detectHighOnLow cfg r).ind = r.ind := by
  unfold detectHighOnLow; split <;> rfl

@[simp] theorem detectHighOnLow_edgePend (cfg : Config) (r : Regs) : (detectHighOnLow cfg r).edgePend = r.edgePend := by
  unfold detectHighOnLow; split <;> rfl

end detectHighOnLow

section detectLowOnLow

@[simp] theorem detectLowOnLow_pwmCnt (cfg : Config) (r : Regs) : (detectLowOnLow cfg r).pwmCnt = r.pwmCnt := by
  unfold detectLowOnLow; dsimp only; split <;> rfl

@[simp] theorem detectLowOnLow_pwmOut (cfg : Config) (r : Regs) : (detectLowOnLow cfg r).pwmOut = r.pwmOut := by
  unfold detectLowOnLow; dsimp only; split <;> rfl

@[simp] theorem detectLowOnLow_dcCur (cfg : Config) (r : Regs) : (detectLowOnLow cfg r).dcCur = r.dcCur := by
  unfold detectLowOnLow; dsimp only; split <;> rfl

@[simp] theorem detectLowOnLow_dcTgt (cfg : Config) (r : Regs) : (detectLowOnLow cfg r).dcTgt = r.dcTgt := by
  unfold detectLowOnLow; dsimp only; split <;> rfl

@[simp] theorem detectLowOnLow_posDelay (cfg : Config) (r : Regs) : (detectLowOnLow cfg r).posDelay = r.posDelay := by
  unfold detectLowOnLow; dsimp only; split <;> rfl

@[simp] theorem detectLowOnLow_posState (cfg : Config) (r : Regs) : (detectLowOnLow cfg r).posState = r.posState := by
  unfold detectLowOnLow; dsimp only; split <;> rfl

@[simp] theorem detectLowOnLow_edgeEn (cfg : Config) (r : Regs) : (detectLowOnLow cfg r).edgeEn = r.edgeEn := by
  unfold detectLowOnLow; dsimp only; split <;> rfl

@[simp] theorem detectLowOnLow_ccState (cfg : Config) (r : Regs) : (detectLowOnLow cfg r).ccState = r.ccState := by
  unfold detectLowOnLow; dsimp only; split <;> rfl

@[simp] theorem detectLowOnLow_ccTimer (cfg : Config) (r : Regs) : (detectLowOnLow cfg r).ccTimer = r.ccTimer := by
  unfold detectLowOnLow; dsimp only; split <;> rfl

@[simp] theorem detectLowOnLow_prescCnt (cfg : Config) (r : Regs) : (detectLowOnLow cfg r).prescCnt = r.prescCnt := by
  unfold detectLowOnLow; dsimp only; split <;> rfl

@[simp] theorem detectLowOnLow_cmd (cfg : Config) (r : Regs) : (detectLowOnLow cfg r).cmd = r.cmd := by
  unfold detectLowOnLow; dsimp only; split <;> rfl

@[simp] theorem detectLowOnLow_ind (cfg : Config) (r : Regs) : (detectLowOnLow cfg r).ind = r.ind := by
  unfold detectLowOnLow; dsimp only; split <;> rfl

@[simp] theorem detectLowOnLow_edgePend (cfg : Config) (r : Regs) : (detectLowOnLow cfg r).edgePend = r.edgePend := by
  unfold detectLowOnLow; dsimp only; split <;> rfl

end detectLowOnLow

section detectLowOnHigh

@[simp] theorem detectLowOnHigh_pwmCnt (cfg : Config) (r : Regs) : (detectLowOnHigh cfg r).pwmCnt = r.pwmCnt := by
  rfl

@[simp] theorem detectLowOnHigh_pwmOut (cfg : Config) (r : Regs) : (detectLowOnHigh cfg r).pwmOut = r.pwmOut := by
  rfl

@[simp] theorem detectLowOnHigh_dcCur (cfg : Config) (r : Regs) : (detectLowOnHigh cfg r).dcCur = r.dcCur := by
  rfl

@[simp] theorem detectLowOnHigh_dcTgt (cfg : Config) (r : Regs) : (detectLowOnHigh cfg r).dcTgt = r.dcTgt := by
  rfl

@[simp] theorem detectLowOnHigh_posDelay (cfg : Config) (r : Regs) : (detectLowOnHigh cfg r).posDelay = r.posDelay := by
  rfl

@[simp] theorem detectLowOnHigh_posState (cfg : Config) (r : Regs) : (detectLowOnHigh cfg r).posState = r.posState := by
  rfl

@[simp] theorem detectLowOnHigh_edgeEn (cfg : Config) (r : Regs) : (detectLowOnHigh cfg r).edgeEn = r.edgeEn := by
  rfl

@[simp] theorem detectLowOnHigh_ccState (cfg : Config) (r : Regs) : (detectLowOnHigh cfg r).ccState = r.ccState := by
  rfl

@[simp] theorem detectLowOnHigh_ccTimer (cfg : Config) (r : Regs) : (detectLowOnHigh cfg r).ccTimer = r.ccTimer := by
  rfl

@[simp] theorem detectLowOnHigh_prescCnt (cfg : Config) (r : Regs) : (detectLowOnHigh cfg r).prescCnt = r.prescCnt := by
  rfl

@[simp] theorem detectLowOnHigh_cmd (cfg : Config) (r : Regs) : (detectLowOnHigh cfg r).cmd = r.cmd := by
  rfl

@[simp] theorem detectLowOnHigh_ind (cfg : Config) (r : Regs) : (detectLowOnHigh cfg r).ind = r.ind := by
  rfl

@[simp] theorem detectLowOnHigh_edgePend (cfg : Config) (r : Regs) : (detectLowOnHigh cfg r).edgePend = r.edgePend := by
  rfl

end detectLowOnHigh

section rfStep

@[simp] theorem rfStep_pwmCnt (cfg : Config) (l : Bit) (r : Regs) : (rfStep cfg l r).pwmCnt = r.pwmCnt := by
  unfold rfStep; split <;> (try split) <;> simp

@[simp] theorem rfStep_pwmOut (cfg : Config) (l : Bit) (r : Regs) : (rfStep cfg l r).pwmOut = r.pwmOut := by
  unfold rfStep; split <;> (try split) <;> simp

@[simp] theorem rfStep_dcCur (cfg : Config) (l : Bit) (r : Regs) : (rfStep cfg l r).dcCur = r.dcCur := by
  unfold rfStep; split <;> (try split) <;> simp

@[simp] theorem rfStep_dcTgt (cfg : Config) (l : Bit) (r : Regs) : (rfStep cfg l r).dcTgt = r.dcTgt := by
  unfold rfStep; split <;> (try split) <;> simp

@[simp] theorem rfStep_posDelay (cfg : Config) (l : Bit) (r : Regs) : (rfStep cfg l r).posDelay = r.posDelay := by
  unfold rfStep; split <;> (try split) <;> simp

@[simp] theorem rfStep_posState (cfg : Config) (l : Bit) (r : Regs) : (rfStep cfg l r).posState = r.posState := by
  unfold rfStep; split <;> (try split) <;> simp

@[simp] theorem rfStep_ccState (cfg : Config) (l : Bit) (r : Regs) : (rfStep cfg l r).ccState = r.ccState := by
  unfold rfStep; split <;> (try split) <;> simp

@[simp] theorem rfStep_ccTimer (cfg : Config) (l : Bit) (r : Regs) : (rfStep cfg l r).ccTimer = r.ccTimer := by
  unfold rfStep; split <;> (try split) <;> simp

@[simp] theorem rfStep_prescCnt (cfg : Config) (l : Bit) (r : Regs) : (rfStep cfg l r).prescCnt = r.prescCnt := by
  unfold rfStep; split <;> (try split) <;> simp

@[simp] theorem rfStep_cmd (cfg : Config) (l : Bit) (r : Regs) : (rfStep cfg l r).cmd = r.cmd := by
  unfold rfStep; split <;> (try split) <;> simp

@[simp] theorem rfStep_ind (cfg : Config) (l : Bit) (r : Regs) : (rfStep cfg l r).ind = r.ind := by
  unfold rfStep; split <;> (try split) <;> simp

end rfStep

section gatedRfStep

@[simp] theorem gatedRfStep_pwmCnt (cfg : Config) (l : Bit) (r : Regs) : (gatedRfStep cfg l r).pwmCnt = r.pwmCnt := by
  unfold gatedRfStep; split <;> simp

@[simp] theorem gatedRfStep_pwmOut (cfg : Config) (l : Bit) (r : Regs) : (gatedRfStep cfg l r).pwmOut = r.pwmOut := by
  unfold gatedRfStep; split <;> simp

@[simp] theorem gatedRfStep_dcCur (cfg : Config) (l : Bit) (r : Regs) : (gatedRfStep cfg l r).dcCur = r.dcCur := by
  unfold gatedRfStep; split <;> simp

@[simp] theorem gatedRfStep_dcTgt (cfg : Config) (l : Bit) (r : Regs) : (gatedRfStep cfg l r).dcTgt = r.dcTgt := by
  unfold gatedRfStep; split <;> simp

@[simp] theorem gatedRfStep_posDelay (cfg : Config) (l : Bit) (r : Regs) : (gatedRfStep cfg l r).posDelay = r.posDelay := by
  unfold gatedRfStep; split <;> simp

@[simp] theorem gatedRfStep_posState (cfg : Config) (l : Bit) (r : Regs) : (gatedRfStep cfg l r).posState = r.posState := by
  unfold gatedRfStep; split <;> simp

@[simp] theorem gatedRfStep_ccState (cfg : Config) (l : Bit) (r : Regs) : (gatedRfStep cfg l r).ccState = r.ccState := by
  unfold gatedRfStep; split <;> simp

@[simp] theorem gatedRfStep_ccTimer (cfg : Config) (l : Bit) (r : Regs) : (gatedRfStep cfg l r).ccTimer = r.ccTimer := by
  unfold gatedRfStep; split <;> simp

@[simp] theorem gatedRfStep_prescCnt (cfg : Config) (l : Bit) (r : Regs) : (gatedRfStep cfg l r).prescCnt = r.prescCnt := by
  unfold gatedRfStep; split <;> simp

@[simp] theorem gatedRfStep_cmd (cfg : Config) (l : Bit) (r : Regs) : (gatedRfStep cfg l r).cmd = r.cmd := by
  unfold gatedRfStep; split <;> simp

@[simp] theorem gatedRfStep_ind (cfg : Config) (l : Bit) (r : Regs) : (gatedRfStep cfg l r).ind = r.ind := by
  unfold gatedRfStep; split <;> simp

end gatedRfStep

section ccStep

@[simp] theorem ccStep_pwmCnt (cfg : Config) (r : Regs) : (ccStep cfg r).pwmCnt = r.pwmCnt := by
  unfold ccStep ccIdle ccValidating ccWaitingForEnd ccIgnoring ccRecover; split <;> (repeat' split) <;> rfl

@[simp] theorem ccStep_pwmOut (cfg : Config) (r : Regs) : (ccStep cfg r).pwmOut = r.pwmOut := by
  unfold ccStep ccIdle ccValidating ccWaitingForEnd ccIgnoring ccRecover; split <;> (repeat' split) <;> rfl

@[simp] theorem ccStep_dcCur (cfg : Config) (r : Regs) : (ccStep cfg r).dcCur = r.dcCur := by
  unfold ccStep ccIdle ccValidating ccWaitingForEnd ccIgnoring ccRecover; split <;> (repeat' split) <;> rfl

@[simp] theorem ccStep_dcTgt (cfg : Config) (r : Regs) : (ccStep cfg r).dcTgt = r.dcTgt := by
  unfold ccStep ccIdle ccValidating ccWaitingForEnd ccIgnoring ccRecover; split <;> (repeat' split) <;> rfl

@[simp] theorem ccStep_posDelay (cfg : Config) (r : Regs) : (ccStep cfg r).posDelay = r.posDelay := by
  unfold ccStep ccIdle ccValidating ccWaitingForEnd ccIgnoring ccRecover; split <;> (repeat' split) <;> rfl

@[simp] theorem ccStep_posState (cfg : Config) (r : Regs) : (ccStep cfg r).posState = r.posState := by
  unfold ccStep ccIdle ccValidating ccWaitingForEnd ccIgnoring ccRecover; split <;> (repeat' split) <;> rfl

@[simp] theorem ccStep_rfState (cfg : Config) (r : Regs) : (ccStep cfg r).rfState = r.rfState := by
  unfold ccStep ccIdle ccValidating ccWaitingForEnd ccIgnoring ccRecover; split <;> (repeat' split) <;> rfl

@[simp] theorem ccStep_rfCnt (cfg : Config) (r : Regs) : (ccStep cfg r).rfCnt = r.rfCnt := by
  unfold ccStep ccIdle ccValidating ccWaitingForEnd ccIgnoring ccRecover; split <;> (repeat' split) <;> rfl

@[simp] theorem ccStep_rfDet (cfg : Config) (r : Regs) : (ccStep cfg r).rfDet = r.rfDet := by
  unfold ccStep ccIdle ccValidating ccWaitingForEnd ccIgnoring ccRecover; split <;> (repeat' split) <;> rfl

@[simp] theorem ccStep_edgeEn (cfg : Config) (r : Regs) : (ccStep cfg r).edgeEn = r.edgeEn := by
  unfold ccStep ccIdle ccValidating ccWaitingForEnd ccIgnoring ccRecover; split <;> (repeat' split) <;> rfl

@[simp] theorem ccStep_prescCnt (cfg : Config) (r : Regs) : (ccStep cfg r).prescCnt = r.prescCnt := by
  unfold ccStep ccIdle ccValidating ccWaitingForEnd ccIgnoring ccRecover; split <;> (repeat' split) <;> rfl

@[simp] theorem ccStep_edgePend (cfg : Config) (r : Regs) : (ccStep cfg r).edgePend = r.edgePend := by
  unfold ccStep ccIdle ccValidating ccWaitingForEnd ccIgnoring ccRecover; split <;> (repeat' split) <;> rfl

end ccStep

section posStep

@[simp] theorem posStep_pwmCnt (cfg : Config) (b : Bit) (r : Regs) : (posStep cfg b r).pwmCnt = r.pwmCnt := by
  unfold posStep posAtRest posMovingUp posMovingDown posWaitingUp posWaitingDown; split <;> (repeat' split) <;> rfl

@[simp] theorem posStep_pwmOut (cfg : Config) (b : Bit) (r : Regs) : (posStep cfg b r).pwmOut = r.pwmOut := by
  unfold posStep posAtRest posMovingUp posMovingDown posWaitingUp posWaitingDown; split <;> (repeat' split) <;> rfl

@[simp] theorem posStep_rfState (cfg : Config) (b : Bit) (r : Regs) : (posStep cfg b r).rfState = r.rfState := by
  unfold posStep posAtRest posMovingUp posMovingDown posWaitingUp posWaitingDown; split <;> (repeat' split) <;> rfl

@[simp] theorem posStep_rfCnt (cfg : Config) (b : Bit) (r : Regs) : (posStep cfg b r).rfCnt = r.rfCnt := by
  unfold posStep posAtRest posMovingUp posMovingDown posWaitingUp posWaitingDown; split <;> (repeat' split) <;> rfl

@[simp] theorem posStep_rfDet (cfg : Config) (b : Bit) (r : Regs) : (posStep cfg b r).rfDet = r.rfDet := by
  unfold posStep posAtRest posMovingUp posMovingDown posWaitingUp posWaitingDown; split <;> (repeat' split) <;> rfl

@[simp] theorem posStep_edgeEn (cfg : Config) (b : Bit) (r : Regs) : (posStep cfg b r).edgeEn = r.edgeEn := by
  unfold posStep posAtRest posMovingUp posMovingDown posWaitingUp posWaitingDown; split <;> (repeat' split) <;> rfl

@[simp] theorem posStep_ccState (cfg : Config) (b : Bit) (r : Regs) : (posStep cfg b r).ccState = r.ccState := by
  unfold posStep posAtRest posMovingUp posMovingDown posWaitingUp posWaitingDown; split <;> (repeat' split) <;> rfl

@[simp] theorem posStep_ccTimer (cfg : Config) (b : Bit) (r : Regs) : (posStep cfg b r).ccTimer = r.ccTimer := by
  unfold posStep posAtRest posMovingUp posMovingDown posWaitingUp posWaitingDown; split <;> (repeat' split) <;> rfl

@[simp] theorem posStep_prescCnt (cfg : Config) (b : Bit) (r : Regs) : (posStep cfg b r).prescCnt = r.prescCnt := by
  unfold posStep posAtRest posMovingUp posMovingDown posWaitingUp posWaitingDown; split <;> (repeat' split) <;> rfl

@[simp] theorem posStep_ind (cfg : Config) (b : Bit) (r : Regs) : (posStep cfg b r).ind = r.ind := by
  unfold posStep posAtRest posMovingUp posMovingDown posWaitingUp posWaitingDown; split <;> (repeat' split) <;> rfl

@[simp] theorem posStep_edgePend (cfg : Config) (b : Bit) (r : Regs) : (posStep cfg b r).edgePend = r.edgePend := by
  unfold posStep posAtRest posMovingUp posMovingDown posWaitingUp posWaitingDown; split <;> (repeat' split) <;> rfl

end posStep

end Sys2Proof.Machine
end

