-- ==== Sys2Proof/Laws/Ops.lean ====
section
/-! SUPPORT. What each shared operation can do, said once (00_scope.md R8, R12; 44_operations.md
R216). -/

namespace Sys2Proof.Machine

/-- `dec0` in exact integers (00_scope.md R12). -/
@[simp] theorem dec0_toNat (v : Word) : (dec0 v).toNat = v.toNat - 1 := by
  unfold dec0
  split
  · next h => subst h; rfl
  · next h =>
    have : v.toNat ≠ 0 := fun e => h (BitVec.eq_of_toNat_eq e)
    bv_omega

/-- `inc_to` in exact integers, for a bound that fits a register (00_scope.md R12). -/
theorem incTo_toNat (v : Word) (m : Nat) (hm : m ≤ 65535) :
    (incTo v m).toNat = if m ≤ v.toNat then m else v.toNat + 1 := by
  unfold incTo
  split
  · simp [Nat.mod_eq_of_lt (show m < 65536 by omega)]
  · have := v.isLt
    bv_omega

/-- A configuration value that fits is loaded as it is (00_scope.md R10). -/
theorem loadCfg_toNat (n : Nat) (hn : n ≤ 65535) : (loadCfg n).toNat = n := by
  simp [loadCfg, Nat.mod_eq_of_lt (show n < 65536 by omega)]

/-- A condition of 00_scope.md R8 as the check computes it is the condition as it reads. -/
theorem meetsCondition_iff (c : Config) (k : ConfigCondition) :
    meetsCondition c k = true ↔ k.Holds c := by
  cases k <;> simp [meetsCondition, ConfigCondition.Holds]

/-- The check of RESET finds nothing exactly for the configurations of 00_scope.md R8. -/
theorem failingCondition_eq_none_iff (c : Config) : failingCondition c = none ↔ c.WellFormed := by
  constructor
  · intro h
    have h' := List.find?_eq_none.mp h
    have all : ∀ k ∈ configConditions, k.Holds c := fun k hk =>
      (meetsCondition_iff c k).mp (by simpa using h' k hk)
    have h1 := all .maxStepRange (by decide)
    have h7 := all .fieldsFit (by decide)
    exact ⟨h1.1, h1.2, all .initDcBound (by decide), all .posStartBound (by decide),
      all .posEndBound (by decide), all .speedPositive (by decide), all .prescalePositive (by decide),
      h7.1, h7.2.1, h7.2.2.1, h7.2.2.2.1, h7.2.2.2.2.1, h7.2.2.2.2.2.1, h7.2.2.2.2.2.2.1,
      h7.2.2.2.2.2.2.2⟩
  · intro w
    refine List.find?_eq_none.mpr fun k _ => ?_
    have hk : k.Holds c := by
      cases k
      · exact ⟨w.maxStep_pos, w.maxStep_le⟩
      · exact w.initDc_le
      · exact w.posStart_le
      · exact w.posEnd_le
      · exact w.speed_pos
      · exact w.prescale_pos
      · exact ⟨w.speed_le, w.countHigh_le, w.countLow_le, w.countOler_le, w.tValidate_le,
          w.tWaitEnd_le, w.tIgnore_le, w.prescale_le⟩
    simp [(meetsCondition_iff c k).mpr hk]

/-- A guarded operation on a running block. -/
theorem onRunning_running {i : Instr} {s : State} {f : Regs → State} {r : Regs}
    (h : s.block = .running r) : onRunning i s f = .next (f r) := by
  simp [onRunning, h]

/-- A guarded operation while Unreset (44_operations.md R216). -/
theorem onRunning_unreset {i : Instr} {s : State} {f : Regs → State} (h : s.block = .unreset) :
    onRunning i s f = .refused (.notReset (encode i)) := by
  simp [onRunning, h]

/-- Where a guarded operation answers a next state, the block was running and the state is the
operation's. -/
theorem onRunning_next {i : Instr} {s t : State} {f : Regs → State}
    (h : onRunning i s f = .next t) : ∃ r, s.block = .running r ∧ t = f r := by
  unfold onRunning at h
  split at h
  · cases h
  · next r hr => exact ⟨r, hr, by injection h with h; exact h.symm⟩

/-- Where RESET answers a next state, the check found nothing and the state is the reset state of the
configuration. -/
theorem execReset_next {s t : State} (h : execReset s = .next t) :
    s.cfg.WellFormed ∧ t = s.withRegs (resetRegs s.cfg) := by
  unfold execReset at h
  split at h
  · cases h
  · next hc => exact ⟨(failingCondition_eq_none_iff _).mp hc, by injection h with h; exact h.symm⟩

/-- All an operation can do when it answers a next state (44_operations.md R211 to R215). -/
theorem exec_next_cases {i : Instr} {s t : State} (h : exec i s = .next t) :
    (∃ l r, i = .tick l ∧ s.block = .running r ∧ t = s.withRegs (tickRegs s.cfg l r)) ∨
    (∃ r, i = .edge ∧ s.block = .running r ∧ t = s.withRegs (rfEdge s.cfg r)) ∨
    (∃ b r, i = .fg b ∧ s.block = .running r ∧ t = s.withRegs (fgRegs s.cfg b r)) ∨
    (∃ x r, i = .obs x ∧ s.block = .running r ∧ t = s.logObs (readReg r (regAt x))) ∨
    (i = .reset ∧ s.cfg.WellFormed ∧ t = s.withRegs (resetRegs s.cfg)) := by
  cases i with
  | tick l => obtain ⟨r, hr, ht⟩ := onRunning_next h; exact .inl ⟨l, r, rfl, hr, ht⟩
  | edge => obtain ⟨r, hr, ht⟩ := onRunning_next h; exact .inr (.inl ⟨r, rfl, hr, ht⟩)
  | fg b => obtain ⟨r, hr, ht⟩ := onRunning_next h; exact .inr (.inr (.inl ⟨b, r, rfl, hr, ht⟩))
  | obs x =>
    obtain ⟨r, hr, ht⟩ := onRunning_next h
    exact .inr (.inr (.inr (.inl ⟨x, r, rfl, hr, ht⟩)))
  | reset =>
    obtain ⟨hw, ht⟩ := execReset_next h
    exact .inr (.inr (.inr (.inr ⟨rfl, hw, ht⟩)))

/-- All a step can do when it answers a next state: nothing waits and nothing changes, or the word
taken is an operation and the state is what it answers. -/
theorem step_next_cases {s t : State} (h : step s = .next t) :
    (s.pending = [] ∧ t = s) ∨
    (∃ w rest i, s.pending = w :: rest ∧ decode w = .ok i ∧
      exec i { s with pending := rest } = .next t) := by
  unfold step fetch at h
  split at h
  · next heq =>
    split at heq
    · next hp => exact .inl ⟨hp, by injection h with h; exact h.symm⟩
    · cases heq
  · cases h
  · next heq =>
    split at heq
    · cases heq
    · next w rest hp =>
      simp only [Option.some.injEq, Prod.mk.injEq] at heq
      obtain ⟨hd, rfl⟩ := heq
      exact .inr ⟨w, rest, _, hp, hd, h⟩

/-- A step of a run that finds no operation waiting changes nothing (00_scope.md R6). -/
theorem advance_idle {s : State} (h : s.pending = []) : advance s = s := by
  simp [advance, step, fetch, h]

/-- A step of a run takes the first word waiting, refused or not, and adds none (44_operations.md
R210, R216). -/
@[simp] theorem advance_pending (s : State) : (advance s).pending = s.pending.tail := by
  unfold advance
  split
  · next t h =>
    rcases step_next_cases h with ⟨hp, rfl⟩ | ⟨w, rest, i, hp, -, he⟩
    · simp [hp]
    · rcases exec_next_cases he with ⟨_, _, _, _, rfl⟩ | ⟨_, _, _, rfl⟩ | ⟨_, _, _, _, rfl⟩ |
        ⟨_, _, _, _, rfl⟩ | ⟨_, _, rfl⟩ <;> simp [State.withRegs, State.logObs, hp]
  · rfl
  · next f _ => cases f

/-- What a step without an operation adds to the port trace: nothing. -/
theorem portTrace_idle (n : Nat) {s : State} (h : s.pending = []) : portTrace n s = [] := by
  cases n <;> simp [portTrace, h]

/-- What a step that takes an operation adds to the port trace: the ports it leaves. -/
theorem portTrace_cons (n : Nat) {s : State} {w : OpWord} {rest : List OpWord}
    (h : s.pending = w :: rest) :
    portTrace (n + 1) s = ports (advance s) :: portTrace n (advance s) := by
  simp [portTrace, h]

end Sys2Proof.Machine
end

