-- ==== Sys2Proof/Laws/PerInstr.lean ====
section
/-! SUPPORT. Statements made for each operation: its encoding lies under its row of the opcode table
(30_encoding.md R82 to R86). -/

namespace Sys2Proof.Laws

/-- An operation is well formed, and its word has the row's pattern under the row's mask. -/
def EncodedWordMatchesRow.Statement (i : Instr) : Prop :=
  i.WellFormed ∧ encode i &&& i.row.mask = i.row.pattern ∧ i.row ∈ opcodeRows

theorem EncodedWordMatchesRow.tick (l : Bit) : EncodedWordMatchesRow.Statement (.tick l) := by
  revert l; unfold EncodedWordMatchesRow.Statement; decide

theorem EncodedWordMatchesRow.edge : EncodedWordMatchesRow.Statement .edge := by
  unfold EncodedWordMatchesRow.Statement; decide

theorem EncodedWordMatchesRow.fg (b : Bit) : EncodedWordMatchesRow.Statement (.fg b) := by
  revert b; unfold EncodedWordMatchesRow.Statement; decide

theorem EncodedWordMatchesRow.obs (r : RegIndex) : EncodedWordMatchesRow.Statement (.obs r) := by
  revert r; unfold EncodedWordMatchesRow.Statement; decide

theorem EncodedWordMatchesRow.reset : EncodedWordMatchesRow.Statement .reset := by
  unfold EncodedWordMatchesRow.Statement; decide

/-- Whatever the decoder reads is well formed (30_encoding.md R89). -/
theorem instr_wellFormed (i : Instr) : i.WellFormed := by
  cases i with
  | tick l => exact (EncodedWordMatchesRow.tick l).1
  | edge => exact EncodedWordMatchesRow.edge.1
  | fg b => exact (EncodedWordMatchesRow.fg b).1
  | obs r => exact (EncodedWordMatchesRow.obs r).1
  | reset => exact EncodedWordMatchesRow.reset.1

end Sys2Proof.Laws
end

