-- ==== Sys2Proof/Laws/Units.lean ====
section
/-! SUPPORT. What each unit step writes, said once, in exact integers where the configuration fits
(00_scope.md R8, R10). The registers it does not write are in Laws/Frames.lean. -/

namespace Sys2Proof.Machine

/-- A counter value below a bound that fits a register is stored as it is. -/
theorem ofNat16_toNat {n : Nat} (h : n < 65536) : (BitVec.ofNat 16 n).toNat = n := by
  simp [Nat.mod_eq_of_lt h]

/-- PWM_STEP on a wrap tick (40_pwm.md R101). -/
theorem pwmStep_wrap {cfg : Config} {r : Regs} (h : cfg.maxStep ≤ r.pwmCnt.toNat + 1) :
    (pwmStep cfg r).pwmCnt = 0#16 ∧ (pwmStep cfg r).pwmOut = 0#1 := by
  simp [pwmStep, h]

/-- PWM_STEP on any other tick (40_pwm.md R101). -/
theorem pwmStep_count {cfg : Config} {r : Regs} (hm : cfg.maxStep ≤ 65535)
    (h : r.pwmCnt.toNat + 1 < cfg.maxStep) :
    (pwmStep cfg r).pwmCnt.toNat = r.pwmCnt.toNat + 1 ∧
      (pwmStep cfg r).pwmOut = if r.pwmCnt.toNat + 1 ≤ r.dcCur.toNat then 1#1 else 0#1 := by
  have h' : ¬ cfg.maxStep ≤ r.pwmCnt.toNat + 1 := by omega
  have e : pwmStep cfg r =
      { r with
        pwmCnt := BitVec.ofNat 16 (r.pwmCnt.toNat + 1)
        pwmOut := if r.pwmCnt.toNat + 1 ≤ r.dcCur.toNat then 1#1 else 0#1 } := by
    simp [pwmStep, h']
  rw [e]
  exact ⟨ofNat16_toNat (by omega), rfl⟩

/-- COUNTDOWN_STEP on a wrap of the prescaler (60_exceptions.md R240). -/
theorem countdownStep_wrap {cfg : Config} {r : Regs} (h : cfg.prescale ≤ r.prescCnt.toNat + 1) :
    countdownStep cfg r =
      { r with posDelay := dec0 r.posDelay, prescCnt := 0#16, ccTimer := dec0 r.ccTimer } := by
  simp [countdownStep, h]

/-- COUNTDOWN_STEP on any other tick (60_exceptions.md R240). -/
theorem countdownStep_count {cfg : Config} {r : Regs} (h : r.prescCnt.toNat + 1 < cfg.prescale) :
    countdownStep cfg r =
      { r with
        posDelay := dec0 r.posDelay, prescCnt := BitVec.ofNat 16 (r.prescCnt.toNat + 1) } := by
  simp [countdownStep, show ¬ cfg.prescale ≤ r.prescCnt.toNat + 1 by omega]

/-- The step-delay countdown runs on every tick (60_exceptions.md R239). -/
@[simp] theorem countdownStep_posDelay (cfg : Config) (r : Regs) :
    (countdownStep cfg r).posDelay = dec0 r.posDelay := by
  unfold countdownStep; split <;> rfl

/-- REARM with no edge kept: Idle, armed (42_rf_qualifier.md R157). -/
theorem rearm_armed {cfg : Config} {r : Regs}
    (h : ¬ (cfg.edgePendingMode = .latch ∧ r.edgePend = 1#1)) :
    rearm cfg r = { r with rfState := 0#3, rfCnt := 0#16, edgeEn := 1#1 } := by
  simp only [rearm, if_neg h]

/-- REARM with an edge kept: the edge is taken at once (42_rf_qualifier.md R157). -/
theorem rearm_latched {cfg : Config} {r : Regs}
    (h : cfg.edgePendingMode = .latch ∧ r.edgePend = 1#1) :
    rearm cfg r = { r with rfState := 1#3, rfCnt := 0#16, edgeEn := 0#1, edgePend := 0#1 } := by
  simp only [rearm, if_pos h, arm]

/-- Every transition of the qualifier leaves the run counter at 0 (42_rf_qualifier.md R160). -/
@[simp] theorem rearm_rfCnt (cfg : Config) (r : Regs) : (rearm cfg r).rfCnt = 0#16 := by
  unfold rearm; dsimp only; split <;> rfl

/-- The target is an endpoint (41_positioning.md R121). -/
theorem selectTarget_endpoint (cfg : Config) (c : Nat) :
    selectTarget cfg c = cfg.posStart ∨ selectTarget cfg c = cfg.posEnd := by
  unfold selectTarget
  split
  · exact .inr rfl
  · split
    · exact .inl rfl
    · split
      · exact .inl rfl
      · split <;> exact .inr rfl

/-- Reading a register is by its index (10_state.md R20). -/
theorem regAt_regIndex (g : Reg) : regAt (regIndex g) = g := by cases g <;> rfl

end Sys2Proof.Machine
end

