-- ==== Sys2Proof/Tests/Slice0.lean ====
section
/-! SUPPORT. Tests from the spec's own vectors (95_test_vectors.md) and, for each obligation with
hypotheses, a witness that meets them, with one for each case its conclusion distinguishes, taken at
the case's boundary. -/

namespace Sys2Proof.Tests

open Sys2Proof.Machine Sys2Proof.Safety

/-! ### Configurations and small states -/

/-- TC of 95_test_vectors.md section 0. -/
def tc : Config :=
  { Config.rc1 with maxStep := 10, initDc := 5, posStart := 5, posEnd := 2, speed := 2 }

/-- TCL: TC in latch mode. -/
def tcl : Config := { tc with edgePendingMode := .latch }

/-- The registers of TC's reset state. -/
def r0 : Regs := Regs.reset tc

/-- A running block with given registers. -/
def on (c : Config) (r : Regs) : State := (State.resetWith c).withRegs r

/-- The registers an outcome leaves. -/
def regsOf : Host.Outcome State Fault Refusal → Option Regs
  | .next t => match t.block with
    | .running r => some r
    | .unreset => none
  | .fault _ => none
  | .refused _ => none

/-- The refusal of an outcome. -/
def refusalIn : Host.Outcome State Fault Refusal → Option Refusal
  | .next _ => none
  | .fault _ => none
  | .refused ρ => some ρ

/-- The state an outcome leaves. -/
def stateOf : Host.Outcome State Fault Refusal → Option State
  | .next t => some t
  | .fault _ => none
  | .refused _ => none

/-- The hypotheses most statements share: the block runs, under a well-formed configuration. -/
abbrev Runs (s : State) (r : Regs) : Prop := s.block = .running r ∧ s.cfg.WellFormed

theorem tc_wellFormed : tc.WellFormed := by constructor <;> decide

theorem tcl_wellFormed : tcl.WellFormed := by constructor <;> decide

theorem runs_tc (r : Regs) : Runs (on tc r) r := ⟨rfl, tc_wellFormed⟩

theorem runs_tcl (r : Regs) : Runs (on tcl r) r := ⟨rfl, tcl_wellFormed⟩

theorem r0_inv : RegsInv tc r0 := by constructor <;> decide

/-- RESET's registers and the register table's are the same (10_state.md R20, 44_operations.md R215). -/
theorem test_reset_values_agree (c : Config) : resetRegs c = Regs.reset c := rfl

/-! ### Decoding: words written out from 30_encoding.md R82 to R86, and R88 -/

theorem test_decode_tick :
    decode 0b00100000#8 = .ok (.tick 0#1) ∧ decode 0b00100001#8 = .ok (.tick 1#1) := ⟨rfl, rfl⟩

theorem test_decode_edge : decode 0b01000000#8 = .ok .edge := rfl

theorem test_decode_fg :
    decode 0b01100000#8 = .ok (.fg 0#1) ∧ decode 0b01100001#8 = .ok (.fg 1#1) := ⟨rfl, rfl⟩

theorem test_decode_obs :
    decode 0b10000000#8 = .ok (.obs 0#4) ∧ decode 0b10000101#8 = .ok (.obs 5#4) ∧
    decode 0b10001010#8 = .ok (.obs 10#4) ∧ decode 0b10001111#8 = .ok (.obs 15#4) :=
  ⟨rfl, rfl, rfl, rfl⟩

theorem test_decode_reset : decode 0b11100000#8 = .ok .reset := rfl

/-- The reserved words of 95_test_vectors.md section 2.1, each refused by name with the word. -/
theorem test_decode_reserved :
    ∀ n ∈ [0x00, 0x1F, 0x22, 0x30, 0x41, 0x63, 0x90, 0xA0, 0xC0, 0xE1, 0xFF],
      refusalIn (step ((State.resetWith tc).withFetchWord 8 n)) =
        some (.reservedEncoding (BitVec.ofNat 8 n)) := by decide

/-- No two rows of the opcode table take the same word. -/
theorem test_rows_disjoint :
    opcodeRows.Pairwise fun a b => a.pattern &&& (a.mask &&& b.mask) ≠
      b.pattern &&& (a.mask &&& b.mask) := by decide

/-- `decodeTableWord` and `withFetchWord` on one word of each row. -/
theorem test_table_words :
    decodeTableWord 8 0x21 = some (.tick 1#1) ∧ decodeTableWord 8 0x40 = some .edge ∧
    decodeTableWord 8 0x61 = some (.fg 1#1) ∧ decodeTableWord 8 0x89 = some (.obs 9#4) ∧
    decodeTableWord 8 0xE0 = some .reset ∧ decodeTableWord 8 0x41 = none ∧
    decodeTableWord 8 0x121 = none := by decide

/-- Assembler lines of 30_encoding.md R92 and R93. -/
theorem test_assemble :
    parseLine "OBS DC_CUR ; two".toList = .pseudo (.op (.obs 2#4)) ∧
    parseLine "OBS 0xF".toList = .pseudo (.op (.obs 15#4)) ∧
    parseLine "STEPS 3, 1".toList = .pseudo (.steps 3 1#1) ∧
    parseLine "TICK 2".toList = .illegal ∧ parseLine "; only a comment".toList = .blank ∧
    parseLine [] = .blank ∧
    encodePseudo (.step 1#1 0#1) = [0x21#8, 0x60#8] ∧ encodePseudo (.ticks 0 1#1) = [] := by decide

/-! ### Well-formedness: a term that each check refuses -/

/-- 00_scope.md R8, 95_test_vectors.md section 2.7: RESET refuses, naming the condition. -/
theorem test_reset_refuses_ill_formed :
    ∀ p ∈ [({ tc with maxStep := 0 }, ConfigCondition.maxStepRange),
        ({ tc with maxStep := 65536 }, .maxStepRange), ({ tc with initDc := 11 }, .initDcBound),
        ({ tc with posStart := 11 }, .posStartBound), ({ tc with posEnd := 11 }, .posEndBound),
        ({ tc with speed := 0 }, .speedPositive), ({ tc with prescale := 0 }, .prescalePositive)],
      refusalIn (exec .reset (State.powerOn p.1)) = some (.illFormedConfig p.2) := by decide

/-- Every 16-bit field above 65535, `SPEED` and `PRESCALE` too (log entry 8). -/
theorem test_reset_refuses_wide_field :
    ∀ c ∈ [{ tc with speed := 65536 }, { tc with countHigh := 65536 }, { tc with countLow := 65536 },
        { tc with countOler := 65536 }, { tc with tValidate := 65536 },
        { tc with tWaitEnd := 65536 }, { tc with tIgnore := 65536 }, { tc with prescale := 65536 }],
      refusalIn (exec .reset (State.powerOn c)) = some (.illFormedConfig .fieldsFit) := by decide

/-- Every operand value of an operation is well formed (30_encoding.md R89). -/
theorem test_operands_wellFormed :
    (∀ l : Bit, (Instr.tick l).WellFormed) ∧ (∀ b : Bit, (Instr.fg b).WellFormed) ∧
    (∀ r : RegIndex, (Instr.obs r).WellFormed) := by decide

/-! ### One step of each operation -/

/-- 95_test_vectors.md 2.7: TC reset, `0x21`. -/
theorem test_tick_from_reset :
    regsOf (step ((State.resetWith tc).withFetchWord 8 0x21)) =
      some { r0 with pwmCnt := 1#16, pwmOut := 1#1, prescCnt := 1#16 } := by decide

/-- 95_test_vectors.md 2.2 (wrap), 2.3 (second row), 2.4 (DetectLow, 2, L = 0) in one TICK. -/
theorem test_tick_wraps_and_detects :
    regsOf (exec (.tick 0#1) (on tc { r0 with
      pwmCnt := 9#16, posDelay := 1#16, prescCnt := 1#16, ccTimer := 2#16, rfState := 2#3,
      rfCnt := 2#16, edgeEn := 0#1 })) =
      some { r0 with ccTimer := 1#16, rfState := 3#3, rfDet := 1#1, edgeEn := 0#1 } := by decide

/-- 95_test_vectors.md 2.7: TC reset, `0x40`. -/
theorem test_edge_from_reset :
    regsOf (step ((State.resetWith tc).withFetchWord 8 0x40)) =
      some { r0 with rfState := 1#3, edgeEn := 0#1 } := by decide

/-- 95_test_vectors.md 2.4: an edge while disarmed, latch and discard. -/
theorem test_edge_disarmed :
    regsOf (exec .edge (on tcl { r0 with rfState := 2#3, edgeEn := 0#1 })) =
      some { r0 with rfState := 2#3, edgeEn := 0#1, edgePend := 1#1 } ∧
    regsOf (exec .edge (on tc { r0 with rfState := 2#3, edgeEn := 0#1 })) =
      some { r0 with rfState := 2#3, edgeEn := 0#1 } := by decide

/-- 95_test_vectors.md 2.7: TC reset, `0x61`. -/
theorem test_fg_from_reset :
    regsOf (step ((State.resetWith tc).withFetchWord 8 0x61)) =
      some { r0 with dcTgt := 2#16, posState := 2#3 } := by decide

/-- 44_operations.md R218(a): the command emitted starts the motion in the same FG. -/
theorem test_fg_command_triggers :
    regsOf (exec (.fg 0#1) (on tc { r0 with ccState := 2#3, ind := 1#1 })) =
      some { r0 with ccState := 3#3, ccTimer := 3#16, cmd := 1#1, dcTgt := 2#16, posState := 2#3 } := by
  decide

/-- 95_test_vectors.md 2.7: TC reset, `0x82` and `0x89` return 5 and 1. -/
theorem test_obs_from_reset :
    stateOf (step ((State.resetWith tc).withFetchWord 8 0x82)) =
      some { State.resetWith tc with obsLog := [5#16] } ∧
    stateOf (step ((State.resetWith tc).withFetchWord 8 0x89)) =
      some { State.resetWith tc with obsLog := [1#16] } := by decide

/-- 95_test_vectors.md 2.7: the reset state of TC from Unreset, and after a refusal, whose mark
stays. -/
theorem test_reset_from_unreset :
    stateOf (step ((State.powerOn tc).withFetchWord 8 0xE0)) = some (State.resetWith tc) ∧
    runWords [0x20#8, 0xE0#8] (State.powerOn tc) =
      { State.resetWith tc with refusedMark := true } := by decide

/-- 95_test_vectors.md 2.7: the lowest code wins while Unreset. -/
theorem test_unreset_refusals :
    refusalIn (step ((State.powerOn tc).withFetchWord 8 0x20)) = some (.notReset 0x20#8) ∧
    refusalIn (step ((State.powerOn tc).withFetchWord 8 0x22)) =
      some (.reservedEncoding 0x22#8) := by decide

/-- 44_operations.md R219: one entry of ports for each operation, none for an idle step. -/
theorem test_observation_skips_idle_steps :
    (observe 2 State.reset).ports = [] ∧
    (observe 3 (issue [0x40#8] (State.resetWith tc))).ports =
      [some { pwmOut := 0#1, ind := 0#1, edgeEn := 0#1, moving := 0#1 }] := by decide

/-! ### Witnesses: encoding, steps, runs -/

/-- First and last word of each range. -/
theorem witness_DecodedWordIsItsEncoding :
    decode 0x20#8 = .ok (.tick 0#1) ∧ decode 0x8F#8 = .ok (.obs 15#4) ∧
    decode 0xE0#8 = .ok .reset := ⟨rfl, rfl, rfl⟩

theorem witness_StepRunsDecodedOperation :
    ({ State.resetWith tc with pending := [0x21#8, 0x60#8] } : State).pending =
      0x21#8 :: [0x60#8] ∧ decode 0x21#8 = .ok (.tick 1#1) := ⟨rfl, rfl⟩

theorem witness_StepWithoutOperationChangesNothing : (State.powerOn tc).pending = [] := rfl

theorem witness_StepsRunTheIssuedOperations :
    (State.powerOn tc).pending = [] ∧ (stateOf (execAll [.reset, .obs 2#4] (State.powerOn tc))) =
      some { State.resetWith tc with obsLog := [5#16] } := by decide

/-- A word each clause refuses, and for each the valid word one bit away. -/
theorem witness_ReservedWordIsRefused :
    ({ State.powerOn tc with pending := [0x00#8] } : State).pending = 0x00#8 :: [] ∧
    (∀ n ∈ [0xBF, 0xC0, 0x22, 0x70, 0x41, 0xE1, 0x90],
      refusalIn (step ((State.powerOn tc).withFetchWord 8 n)) =
        some (.reservedEncoding (BitVec.ofNat 8 n))) ∧
    ∀ n ∈ [0x20, 0x60, 0x40, 0xE0, 0x80],
      refusalIn (step ((State.powerOn tc).withFetchWord 8 n)) ≠
        some (.reservedEncoding (BitVec.ofNat 8 n)) := by decide

theorem witness_UnresetRefusesAllButReset :
    (State.powerOn tc).block = .unreset ∧ Instr.edge ≠ .reset := by decide

/-- One refusal of each kind. -/
theorem witness_RefusalHasOneOfThreeReasons :
    refusalIn (step ((State.powerOn tc).withFetchWord 8 0xFF)) = some (.reservedEncoding 0xFF#8) ∧
    refusalIn (step ((State.powerOn tc).withFetchWord 8 0x60)) = some (.notReset 0x60#8) ∧
    refusalIn (step ((State.powerOn { tc with speed := 0 }).withFetchWord 8 0xE0)) =
      some (.illFormedConfig .speedPositive) := by decide

theorem witness_RefusalSetsTheMarkAndChangesNoRegister :
    refusalIn (step { State.resetWith tc with pending := [0x41#8, 0x20#8] }) =
      some (.reservedEncoding 0x41#8) := by decide

theorem witness_RefusedMarkIsNeverCleared :
    (regsOf (exec .reset { State.resetWith tc with refusedMark := true })).isSome = true ∧
    ({ State.resetWith tc with refusedMark := true } : State).refusedMark = true := by decide

/-- A block that runs, with registers no run reaches among them, and one that does not. -/
theorem witness_OperationsRunToTheirEndOnceReset :
    Runs (on tc r0) r0 ∧
    Runs (on tc { r0 with posState := 7#3, rfState := 7#3, ccState := 7#3 })
      { r0 with posState := 7#3, rfState := 7#3, ccState := 7#3 } ∧
    (State.powerOn tc).block = .unreset ∧ (State.powerOn tc).cfg.WellFormed :=
  ⟨runs_tc _, runs_tc _, rfl, tc_wellFormed⟩

/-- The last operation waiting, a refused one, and as many steps as words wait. -/
theorem witness_ObservationIsPerOperation :
    1 < 2 ∧ 1 < (issue [0x21#8, 0x41#8] (State.resetWith tc)).pending.length ∧
    (issue [0x21#8, 0x41#8] (State.resetWith tc)).pending.length ≤ 2 := by decide

theorem witness_ConfigurationIsFixedAndResetIsKept :
    ∃ r, (State.resetWith tc).block = .running r := ⟨_, rfl⟩

/-! ### Witnesses: RESET -/

/-- The first clause, and the second at each bound of R8, one past it. -/
theorem witness_ResetLeavesResetValues :
    (State.powerOn tc).cfg.WellFormed ∧ ({ tc with maxStep := 0 } : Config).maxStep = 0 ∧
    65535 < ({ tc with maxStep := 65536 } : Config).maxStep ∧
    ({ tc with posEnd := 11 } : Config).maxStep < ({ tc with posEnd := 11 } : Config).posEnd ∧
    ({ tc with speed := 0 } : Config).speed = 0 ∧
    65535 < ({ tc with tIgnore := 65536 } : Config).tIgnore :=
  ⟨tc_wellFormed, by decide⟩

theorem witness_IllFormedResetNamesFirstFailingCondition :
    ¬ (State.powerOn { tc with prescale := 0 }).cfg.WellFormed :=
  fun h => absurd h.prescale_pos (by decide)

/-! ### Witnesses: TICK -/

/-- The wrap tick, and on the other ticks the last HIGH one and the first LOW one. -/
theorem witness_TickStepsPwm :
    Runs (on tc { r0 with pwmCnt := 9#16 }) { r0 with pwmCnt := 9#16 } ∧
    tc.maxStep ≤ (9#16).toNat + 1 ∧
    Runs (on tc { r0 with pwmCnt := 4#16 }) { r0 with pwmCnt := 4#16 } ∧
    ¬ tc.maxStep ≤ (4#16).toNat + 1 ∧ (4#16).toNat + 1 ≤ r0.dcCur.toNat ∧
    Runs (on tc { r0 with pwmCnt := 5#16 }) { r0 with pwmCnt := 5#16 } ∧
    ¬ (5#16).toNat + 1 ≤ r0.dcCur.toNat :=
  ⟨runs_tc _, by decide, runs_tc _, by decide, by decide, runs_tc _, by decide⟩

theorem witness_PwmOutputFollowsCounter :
    Runs (on tc r0) r0 ∧ Runs (on tc { r0 with pwmCnt := 9#16 }) { r0 with pwmCnt := 9#16 } :=
  ⟨runs_tc _, runs_tc _⟩

theorem witness_PwmCounterCountsTicksModuloMaxStep :
    Runs (on tc { r0 with pwmCnt := 9#16 }) { r0 with pwmCnt := 9#16 } ∧
    (9#16).toNat < tc.maxStep ∧ Instr.reset ∉ [.tick 0#1, .fg 1#1, .tick 1#1] :=
  ⟨runs_tc _, by decide⟩

/-- A whole period, and the shortest part of one. -/
theorem witness_PwmHighTimeOfAPeriod :
    Runs (on tc r0) r0 ∧ r0.pwmCnt = 0#16 ∧ 1 ≤ (List.replicate 10 0#1).length ∧
    (List.replicate 10 0#1).length ≤ tc.maxStep ∧ 1 ≤ [(1#1 : Bit)].length ∧
    [(1#1 : Bit)].length ≤ tc.maxStep :=
  ⟨runs_tc _, by decide⟩

/-- The prescaler's wrap, its other case, and countdowns at 0 and above. -/
theorem witness_TickCountsDown :
    Runs (on tc { r0 with prescCnt := 1#16, ccTimer := 1#16, posDelay := 1#16 })
      { r0 with prescCnt := 1#16, ccTimer := 1#16, posDelay := 1#16 } ∧
    tc.prescale ≤ (1#16).toNat + 1 ∧ Runs (on tc r0) r0 ∧
    ¬ tc.prescale ≤ r0.prescCnt.toNat + 1 ∧ r0.posDelay.toNat = 0 :=
  ⟨runs_tc _, by decide, runs_tc _, by decide⟩

/-- `CC_TIMER = 2`, `PRESC_CNT = 1`: not yet at 0 after two TICKs, at 0 after three. -/
theorem witness_ConfirmationTimerRunsOutAfterItsTicks :
    Runs (on tc { r0 with prescCnt := 1#16, ccTimer := 2#16 })
      { r0 with prescCnt := 1#16, ccTimer := 2#16 } ∧
    (1#16).toNat < tc.prescale ∧ Instr.reset ∉ [.tick 0#1, .edge, .tick 1#1] ∧
    (∀ b : Bit, Instr.fg b ∉ [.tick 0#1, .edge, .tick 1#1]) ∧
    ¬ (2#16).toNat * tc.prescale ≤ (1#16).toNat + tickCount [.tick 0#1, .edge, .tick 1#1] ∧
    (2#16).toNat * tc.prescale ≤ (1#16).toNat + tickCount [.tick 0#1, .tick 1#1, .tick 1#1] :=
  ⟨runs_tc _, by decide⟩

theorem witness_TickLeavesQualifierFrozenWhileMoving :
    (on tc { r0 with posState := 4#3, rfState := 1#3, rfCnt := 2#16 }).block =
      .running { r0 with posState := 4#3, rfState := 1#3, rfCnt := 2#16 } ∧ (4#3 : Code) ≠ 0#3 :=
  ⟨rfl, by decide⟩

theorem witness_TickInRfIdle :
    (on tc r0).block = .running r0 ∧ r0.posState = 0#3 ∧ r0.rfState = 0#3 := ⟨rfl, rfl, rfl⟩

/-- The sample that reaches `COUNTHIGH`, and the one before it. -/
theorem witness_TickInDetectHighLineHigh :
    Runs (on tc { r0 with rfState := 1#3, rfCnt := 3#16 }) { r0 with rfState := 1#3, rfCnt := 3#16 } ∧
    r0.posState = 0#3 ∧ tc.countHigh ≤ (3#16).toNat + 1 ∧
    Runs (on tc { r0 with rfState := 1#3, rfCnt := 2#16 }) { r0 with rfState := 1#3, rfCnt := 2#16 } ∧
    ¬ tc.countHigh ≤ (2#16).toNat + 1 :=
  ⟨runs_tc _, rfl, by decide, runs_tc _, by decide⟩

/-- The smallest count within tolerance, and the largest that is not. -/
theorem witness_TickInDetectHighLineLow :
    (on tc { r0 with rfState := 1#3, rfCnt := 3#16 }).block =
      .running { r0 with rfState := 1#3, rfCnt := 3#16 } ∧ r0.posState = 0#3 ∧
    tc.countHigh ≤ (3#16).toNat + tc.countOler ∧ ¬ tc.countHigh ≤ (2#16).toNat + tc.countOler :=
  ⟨rfl, rfl, by decide, by decide⟩

/-- The sample that reaches `COUNTLOW`, and the one before it. -/
theorem witness_TickInDetectLowLineLow :
    Runs (on tc { r0 with rfState := 2#3, rfCnt := 2#16 }) { r0 with rfState := 2#3, rfCnt := 2#16 } ∧
    r0.posState = 0#3 ∧ tc.countLow ≤ (2#16).toNat + 1 ∧
    Runs (on tc { r0 with rfState := 2#3, rfCnt := 1#16 }) { r0 with rfState := 2#3, rfCnt := 1#16 } ∧
    ¬ tc.countLow ≤ (1#16).toNat + 1 :=
  ⟨runs_tc _, rfl, by decide, runs_tc _, by decide⟩

/-- The smallest count within tolerance, and the largest that is not. -/
theorem witness_TickInDetectLowLineHigh :
    (on tc { r0 with rfState := 2#3, rfCnt := 2#16 }).block =
      .running { r0 with rfState := 2#3, rfCnt := 2#16 } ∧ r0.posState = 0#3 ∧
    tc.countLow ≤ (2#16).toNat + tc.countOler ∧ ¬ tc.countLow ≤ (1#16).toNat + tc.countOler :=
  ⟨rfl, rfl, by decide, by decide⟩

/-- A kept edge in latch mode, and none. -/
theorem witness_TickInDetectEnd :
    (on tcl { r0 with rfState := 3#3, edgeEn := 0#1, edgePend := 1#1 }).block =
      .running { r0 with rfState := 3#3, edgeEn := 0#1, edgePend := 1#1 } ∧
    tcl.edgePendingMode = .latch ∧
    (on tc { r0 with rfState := 3#3, edgeEn := 0#1 }).block =
      .running { r0 with rfState := 3#3, edgeEn := 0#1 } ∧ tc.edgePendingMode ≠ .latch ∧
    r0.posState = 0#3 := ⟨rfl, rfl, rfl, by decide, rfl⟩

/-- The lowest and the highest unrecognized code, with and without a kept edge. -/
theorem witness_TickRecoversQualifier :
    (on tc { r0 with rfState := 4#3 }).block = .running { r0 with rfState := 4#3 } ∧
    4 ≤ (4#3 : Code).toNat ∧ r0.posState = 0#3 ∧
    (on tcl { r0 with rfState := 7#3, edgePend := 1#1 }).block =
      .running { r0 with rfState := 7#3, edgePend := 1#1 } ∧ 4 ≤ (7#3 : Code).toNat ∧
    tcl.edgePendingMode = .latch := ⟨rfl, by decide, rfl, rfl, by decide, rfl⟩

/-- Just before the last TICK, and after it. -/
theorem witness_CleanSignalIsDetected :
    Runs (on tc r0) r0 ∧ r0.posState = 0#3 ∧ r0.edgeEn = 1#1 ∧ 1 ≤ tc.countHigh ∧
    1 ≤ tc.countLow ∧ 6 ≤ tc.countHigh + tc.countLow ∧ 6 < tc.countHigh + tc.countLow ∧
    7 ≤ tc.countHigh + tc.countLow ∧ ¬ 7 < tc.countHigh + tc.countLow :=
  ⟨runs_tc _, by decide⟩

/-- `h = 2` under TC, and the shortest run, `h = 0`, with `COUNTHIGH = 2`. -/
theorem witness_ShortHighRunIsNotDetected :
    Runs (on tc r0) r0 ∧ r0.posState = 0#3 ∧ r0.edgeEn = 1#1 ∧
    2 + tc.countOler + 1 = tc.countHigh ∧
    0 + ({ tc with countHigh := 2 } : Config).countOler + 1 =
      ({ tc with countHigh := 2 } : Config).countHigh :=
  ⟨runs_tc _, by decide⟩

/-- The pulses of 95_test_vectors.md 2.4, at the bounds of the table's rows: `(h, m)`. -/
theorem witness_CleanPulseOutcome :
    (on tc r0).block = .running r0 ∧ StateInv (on tc r0) ∧ r0.posState = 0#3 ∧ r0.edgeEn = 1#1 ∧
    1 ≤ tc.countHigh ∧ 1 ≤ tc.countLow ∧
    (∀ p ∈ [(5, 1), (4, 3), (4, 2), (3, 4), (3, 3), (2, 1)], 1 ≤ p.1 ∧ 1 ≤ p.2) ∧
    tc.countHigh < 5 ∧ 4 = tc.countHigh ∧ tc.countLow ≤ 3 ∧ ¬ tc.countLow ≤ 2 ∧
    tc.countHigh ≤ 3 + tc.countOler ∧ tc.countLow ≤ 4 - 1 ∧ ¬ tc.countLow ≤ 3 - 1 ∧
    ¬ tc.countHigh ≤ 2 + tc.countOler :=
  ⟨rfl, ⟨tc_wellFormed, r0_inv⟩, by decide⟩

/-- A TICK that detects, one that fails, from DetectLow and from DetectHigh. -/
theorem witness_DetectionChangesOnlyOnEntryToDetectEnd :
    (regsOf (exec (.tick 0#1) (on tc { r0 with rfState := 2#3, rfCnt := 2#16 }))).map Regs.rfDet =
      some 1#1 ∧
    (regsOf (exec (.tick 0#1) (on tc { r0 with rfState := 1#3, rfDet := 1#1 }))).map Regs.rfDet =
      some 0#1 ∧ Instr.tick 0#1 ≠ .reset := by decide

/-- A TICK, an EDGE and a RESET that change `RF_STATE`. -/
theorem witness_QualifierTransitionClearsRunLength :
    (regsOf (exec (.tick 1#1) (on tc { r0 with rfState := 1#3, rfCnt := 3#16 }))).map Regs.rfState =
      some 2#3 ∧
    (regsOf (exec .edge (on tc r0))).map Regs.rfState = some 1#3 ∧
    (regsOf (exec .reset (on tc { r0 with rfState := 1#3, rfCnt := 3#16 }))).map Regs.rfState =
      some 0#3 := by decide

/-! ### Witnesses: EDGE and OBS -/

/-- Armed; disarmed in latch mode; disarmed in discard mode. -/
theorem witness_EdgeArmsKeepsOrDrops :
    (on tc r0).block = .running r0 ∧ r0.edgeEn = 1#1 ∧
    (on tcl { r0 with edgeEn := 0#1 }).block = .running { r0 with edgeEn := 0#1 } ∧
    tcl.edgePendingMode = .latch ∧
    (on tc { r0 with edgeEn := 0#1 }).block = .running { r0 with edgeEn := 0#1 } ∧
    tc.edgePendingMode ≠ .latch := ⟨rfl, rfl, rfl, rfl, rfl, by decide⟩

theorem witness_ObsReturnsTheRegister :
    (State.powerOn tc).block = .unreset ∧ (on tc r0).block = .running r0 := ⟨rfl, rfl⟩

/-! ### Witnesses: FG, command confirmation -/

/-- A detection seen AtRest, one seen in motion, and none. -/
theorem witness_FgInConfirmationIdle :
    Runs (on tc { r0 with rfDet := 1#1 }) { r0 with rfDet := 1#1 } ∧
    Runs (on tc { r0 with rfDet := 1#1, posState := 2#3 }) { r0 with rfDet := 1#1, posState := 2#3 } ∧
    Runs (on tc r0) r0 ∧ r0.ccState = 0#3 ∧ r0.rfDet = 0#1 ∧
    MotionDone { r0 with rfDet := 1#1, posState := 2#3 } :=
  ⟨runs_tc _, runs_tc _, runs_tc _, rfl, rfl, by decide⟩

/-- A drop with the timer at 0, a confirmation, and a wait at timer 1. -/
theorem witness_FgInValidating :
    Runs (on tc { r0 with ccState := 1#3 }) { r0 with ccState := 1#3 } ∧ r0.rfDet = 0#1 ∧
    Runs (on tc { r0 with ccState := 1#3, rfDet := 1#1 }) { r0 with ccState := 1#3, rfDet := 1#1 } ∧
    r0.ccTimer = 0#16 ∧
    Runs (on tc { r0 with ccState := 1#3, rfDet := 1#1, ccTimer := 1#16 })
      { r0 with ccState := 1#3, rfDet := 1#1, ccTimer := 1#16 } ∧ (1#16 : Word) ≠ 0#16 :=
  ⟨runs_tc _, rfl, runs_tc _, rfl, runs_tc _, by decide⟩

/-- A re-assertion, a completed absence, a wait at timer 1, and a motion that ends in the same FG. -/
theorem witness_FgInWaitingForEnd :
    Runs (on tc { r0 with ccState := 2#3, rfDet := 1#1 }) { r0 with ccState := 2#3, rfDet := 1#1 } ∧
    Runs (on tc { r0 with ccState := 2#3 }) { r0 with ccState := 2#3 } ∧ r0.rfDet = 0#1 ∧
    r0.ccTimer = 0#16 ∧
    Runs (on tc { r0 with ccState := 2#3, ccTimer := 1#16 })
      { r0 with ccState := 2#3, ccTimer := 1#16 } ∧
    Runs (on tc { r0 with ccState := 2#3, posState := 1#3 })
      { r0 with ccState := 2#3, posState := 1#3 } ∧ MotionDone { r0 with posState := 1#3 } :=
  ⟨runs_tc _, runs_tc _, rfl, rfl, runs_tc _, runs_tc _, by decide⟩

/-- The cooldown at its end, and one unit before it. -/
theorem witness_FgInIgnoring :
    (on tc { r0 with ccState := 3#3, cmd := 1#1 }).block =
      .running { r0 with ccState := 3#3, cmd := 1#1 } ∧ r0.ccTimer = 0#16 ∧
    (on tc { r0 with ccState := 3#3, ccTimer := 1#16 }).block =
      .running { r0 with ccState := 3#3, ccTimer := 1#16 } ∧ (1#16 : Word) ≠ 0#16 :=
  ⟨rfl, rfl, rfl, by decide⟩

theorem witness_FgRecoversConfirmation :
    (on tc { r0 with ccState := 4#3 }).block = .running { r0 with ccState := 4#3 } ∧
    4 ≤ (4#3 : Code).toNat ∧
    (on tc { r0 with ccState := 7#3 }).block = .running { r0 with ccState := 7#3 } ∧
    4 ≤ (7#3 : Code).toNat := ⟨rfl, by decide, rfl, by decide⟩

theorem witness_StuckDetectionNeverConfirms :
    (on tc { r0 with rfDet := 1#1, ccState := 2#3, ind := 1#1 }).block =
      .running { r0 with rfDet := 1#1, ccState := 2#3, ind := 1#1 } ∧
    StateInv (on tc { r0 with rfDet := 1#1, ccState := 2#3, ind := 1#1 }) ∧ r0.rfState = 0#3 ∧
    Instr.reset ∉ [.tick 0#1, .fg 0#1] ∧ Instr.edge ∉ [.tick 0#1, .fg 0#1] :=
  ⟨rfl, ⟨tc_wellFormed, by constructor <;> decide⟩, rfl, by decide, by decide⟩

/-! ### Witnesses: FG, the ramp controller -/

/-- The five branches of SelectTarget, and an FG without a trigger. -/
theorem witness_FgAtRest :
    Runs (on tc r0) r0 ∧ r0.posState = 0#3 ∧ cmdAtPosStep r0 = 0#1 ∧ r0.dcCur.toNat = tc.posStart ∧
    Runs (on tc { r0 with dcCur := 4#16 }) { r0 with dcCur := 4#16 } ∧ (4#16).toNat < tc.posStart ∧
    Runs (on tc { r0 with dcCur := 6#16 }) { r0 with dcCur := 6#16 } ∧ tc.posStart < (6#16).toNat ∧
    ({ tc with posEnd := 6 } : Config).posEnd = (6#16).toNat ∧
    (6#16).toNat < ({ tc with posEnd := 7 } : Config).posEnd ∧
    cmdAtPosStep { r0 with ccState := 2#3 } = 1#1 :=
  ⟨runs_tc _, rfl, by decide, by decide, runs_tc _, by decide, runs_tc _, by decide, by decide,
    by decide, by decide⟩

/-- At the target; a step; the clamp at `MAX_STEP`. -/
theorem witness_FgInMovingUp :
    Runs (on tc { r0 with posState := 1#3 }) { r0 with posState := 1#3 } ∧ r0.dcCur = r0.dcTgt ∧
    Runs (on tc { r0 with posState := 1#3, dcCur := 9#16 })
      { r0 with posState := 1#3, dcCur := 9#16 } ∧ ¬ tc.maxStep ≤ (9#16).toNat ∧
    Runs (on tc { r0 with posState := 1#3, dcCur := 10#16 })
      { r0 with posState := 1#3, dcCur := 10#16 } ∧ tc.maxStep ≤ (10#16).toNat :=
  ⟨runs_tc _, rfl, runs_tc _, by decide, runs_tc _, by decide⟩

/-- At the target; a step to 0; the clamp at 0. -/
theorem witness_FgInMovingDown :
    Runs (on tc { r0 with posState := 2#3 }) { r0 with posState := 2#3 } ∧ r0.dcCur = r0.dcTgt ∧
    Runs (on tc { r0 with posState := 2#3, dcCur := 1#16 })
      { r0 with posState := 2#3, dcCur := 1#16 } ∧
    Runs (on tc { r0 with posState := 2#3, dcCur := 0#16 })
      { r0 with posState := 2#3, dcCur := 0#16 } ∧ (0#16 : Word) ≠ r0.dcTgt :=
  ⟨runs_tc _, rfl, runs_tc _, runs_tc _, by decide⟩

/-- Each Waiting state, the countdown at 0 and at 1. -/
theorem witness_FgInWaiting :
    (on tc { r0 with posState := 3#3 }).block = .running { r0 with posState := 3#3 } ∧
    (on tc { r0 with posState := 4#3 }).block = .running { r0 with posState := 4#3 } ∧
    r0.posDelay = 0#16 ∧
    (on tc { r0 with posState := 3#3, posDelay := 1#16 }).block =
      .running { r0 with posState := 3#3, posDelay := 1#16 } ∧ (1#16 : Word) ≠ 0#16 :=
  ⟨rfl, rfl, rfl, rfl, by decide⟩

theorem witness_FgRecoversRampController :
    (on tc { r0 with posState := 5#3 }).block = .running { r0 with posState := 5#3 } ∧
    5 ≤ (5#3 : Code).toNat ∧
    (on tc { r0 with posState := 7#3 }).block = .running { r0 with posState := 7#3 } ∧
    5 ≤ (7#3 : Code).toNat := ⟨rfl, by decide, rfl, by decide⟩

theorem witness_ConfirmationRunsBeforeTheRamp :
    (on tc { r0 with ccState := 2#3 }).block = .running { r0 with ccState := 2#3 } ∧
    r0.posState = 0#3 ∧ r0.rfDet = 0#1 ∧ r0.ccTimer = 0#16 ∧
    (on tc { r0 with rfDet := 1#1 }).block = .running { r0 with rfDet := 1#1 } ∧
    r0.ccState = 0#3 := ⟨rfl, rfl, rfl, rfl, rfl, rfl⟩

/-- The first code that is not AtRest, and an unrecognized one. -/
theorem witness_TriggersAreIgnoredWhileMoving :
    (on tc { r0 with posState := 1#3 }).block = .running { r0 with posState := 1#3 } ∧
    (1#3 : Code) ≠ 0#3 ∧
    (on tc { r0 with posState := 7#3 }).block = .running { r0 with posState := 7#3 } ∧
    (7#3 : Code) ≠ 0#3 := ⟨rfl, by decide, rfl, by decide⟩

/-- A step up to `MAX_STEP`, in a state that meets the invariant. -/
theorem witness_DutyCycleSlewsByOneUnit :
    let c : Config := { tc with posStart := 10 }
    let r : Regs := { r0 with posState := 1#3, dcCur := 9#16, dcTgt := 10#16 }
    (on c r).block = .running r ∧ StateInv (on c r) ∧ Instr.fg 0#1 ≠ .reset ∧
    (regsOf (exec (.fg 0#1) (on c r))).map Regs.dcCur = some 10#16 :=
  ⟨rfl, ⟨by constructor <;> decide, by constructor <;> decide⟩, by decide, by decide⟩

/-- Set at the end of WaitingForEnd; cleared at the end of the cooldown and of a motion. -/
theorem witness_CommandIsSetAndClearedOnlyWhereSaid :
    (regsOf (exec (.fg 0#1) (on tc { r0 with ccState := 2#3 }))).map Regs.cmd = some 1#1 ∧
    (regsOf (exec (.fg 0#1) (on tc { r0 with ccState := 3#3, cmd := 1#1 }))).map Regs.cmd =
      some 0#1 ∧
    (regsOf (exec (.fg 0#1) (on tc { r0 with
      ccState := 3#3, ccTimer := 1#16, cmd := 1#1, posState := 2#3 }))).map Regs.cmd = some 0#1 ∧
    Instr.fg 0#1 ≠ .reset ∧ r0.cmd = 0#1 := by decide

/-- The motion of 95_test_vectors.md V1.2, 10 STEPs, and the empty motion of `S = E = c`, 1 STEP. -/
theorem witness_MotionUnderStepSchedule :
    (on tc r0).block = .running r0 ∧ StateInv (on tc r0) ∧ r0.posState = 0#3 ∧
    selectTarget tc r0.dcCur.toNat = 2 ∧ 10 = 1 + ((2 - 5) + (5 - 2)) * (tc.speed + 1) ∧
    StateInv (on { tc with posEnd := 5 } r0) ∧ selectTarget { tc with posEnd := 5 } 5 = 5 :=
  ⟨rfl, ⟨tc_wellFormed, r0_inv⟩, rfl, by decide, by decide,
    ⟨by constructor <;> decide, by constructor <;> decide⟩, by decide⟩

/-! ### Witnesses: the whole machine -/

/-- A next state of each operation. -/
theorem witness_OperationsWriteOnlyTheirWriteSet :
    (on tc r0).block = .running r0 ∧
    ∀ i ∈ [Instr.tick 1#1, .edge, .fg 1#1, .obs 15#4, .reset],
      (regsOf (exec i (on tc r0))).isSome = true := ⟨rfl, by decide⟩

/-- A running state with an operation waiting, a running state without one, and Unreset. -/
theorem witness_StepKeepsInvariant :
    StateInv ((State.resetWith tc).withFetchWord 8 0x61) ∧
    (stateOf (step ((State.resetWith tc).withFetchWord 8 0x61))).isSome = true ∧
    StateInv (State.resetWith tc) ∧ StateInv ((State.powerOn tc).withFetchWord 8 0xE0) ∧
    (stateOf (step ((State.powerOn tc).withFetchWord 8 0xE0))).isSome = true :=
  ⟨⟨tc_wellFormed, r0_inv⟩, by decide, ⟨tc_wellFormed, r0_inv⟩, trivial, by decide⟩

theorem witness_ResetMeetsInvariant :
    tc.WellFormed ∧ (stateOf (exec .reset (State.powerOn tc))).isSome = true :=
  ⟨tc_wellFormed, by decide⟩

end Sys2Proof.Tests
end

