-- ==== Sys2Proof/Proofs/Scope.lean ====
section
/-! SUPPORT. Proofs about the scope and the configuration (00_scope.md R6, R8): the step that finds no
operation waiting, and the condition that a refused RESET records. -/

namespace Sys2Proof.Machine

/-! ### A step with no operation waiting -/

/-- Nothing is fetched where no word waits (log entry 4). -/
theorem fetch_idle {s : State} (h : s.pending = []) : fetch s = none := by
  simp [fetch, h]

/-- A step that fetches nothing answers next with the state it found (00_scope.md R6). -/
theorem step_of_fetch_none {s : State} (h : fetch s = none) : step s = .next s := by
  simp [step, h]

/-! ### The condition that a refused RESET records -/

/-- The condition found is the first of R8's list that fails: it fails, and all before it hold. -/
theorem failingCondition_eq_some_iff (c : Config) (k : ConfigCondition) :
    failingCondition c = some k ↔
      ¬ k.Holds c ∧ ∃ pre post, configConditions = pre ++ k :: post ∧ ∀ j ∈ pre, j.Holds c := by
  simp [failingCondition, List.find?_eq_some_iff_append, ← meetsCondition_iff]

/-- An ill-formed configuration fails one of R8's conditions. -/
theorem exists_failingCondition {c : Config} (h : ¬ c.WellFormed) :
    ∃ k, failingCondition c = some k :=
  Option.ne_none_iff_exists'.mp fun hnone => h ((failingCondition_eq_none_iff c).mp hnone)

/-- RESET is Refused with the condition that the check finds (44_operations.md R215, 60_exceptions.md
R231). -/
theorem exec_reset_refused {s : State} {k : ConfigCondition} (h : failingCondition s.cfg = some k) :
    exec .reset s = .refused (.illFormedConfig k) := by
  simp [exec, execReset, h]

end Sys2Proof.Machine

namespace Sys2Proof.Proofs

open Sys2Proof.Machine

/-- Settles O7: with no word waiting the fetch finds nothing, and a step that fetches nothing keeps the
state. -/
theorem stepWithoutOperationChangesNothing : Obligations.StepWithoutOperationChangesNothing :=
  fun _ hidle => step_of_fetch_none (fetch_idle hidle)

/-- Settles O18: an ill-formed configuration fails some condition, RESET records the first that the
check finds, and the search through R8's list splits the list there. -/
theorem illFormedResetNamesFirstFailingCondition :
    Obligations.IllFormedResetNamesFirstFailingCondition := by
  intro s hill
  obtain ⟨k, hk⟩ := exists_failingCondition hill
  obtain ⟨hfails, pre, post, hsplit, hbefore⟩ := (failingCondition_eq_some_iff s.cfg k).mp hk
  exact ⟨pre, k, post, exec_reset_refused hk, hsplit, hfails, hbefore⟩

end Sys2Proof.Proofs
end

/-! SUPPORT. Proofs about the state (10_state.md): the invariant R46 with R24, R28 and R42, kept by
every unit step, operation and run; the write sets R45; the fixed configuration R48; Unreset R37. -/

namespace Sys2Proof.Machine

/-! ### The unit steps, one equation per state code -/

theorem rfStep_idle {cfg : Config} {l : Bit} {r : Regs} (h : r.rfState = 0#3) :
    rfStep cfg l r = r := by
  simp [rfStep, rfPhase, h]

theorem rfStep_detectHigh {cfg : Config} {l : Bit} {r : Regs} (h : r.rfState = 1#3) :
    rfStep cfg l r = if isHigh l then detectHighOnHigh cfg r else detectHighOnLow cfg r := by
  simp [rfStep, rfPhase, h]

theorem rfStep_detectLow {cfg : Config} {l : Bit} {r : Regs} (h : r.rfState = 2#3) :
    rfStep cfg l r = if isHigh l then detectLowOnHigh cfg r else detectLowOnLow cfg r := by
  simp [rfStep, rfPhase, h]

theorem rfStep_detectEnd {cfg : Config} {l : Bit} {r : Regs} (h : r.rfState = 3#3) :
    rfStep cfg l r = if isHigh l then rearm cfg r else r := by
  simp [rfStep, rfPhase, h]

theorem ccStep_idle {cfg : Config} {r : Regs} (h : r.ccState = 0#3) :
    ccStep cfg r = ccIdle cfg r := by
  simp [ccStep, ccPhase, h]

theorem ccStep_validating {cfg : Config} {r : Regs} (h : r.ccState = 1#3) :
    ccStep cfg r = ccValidating cfg r := by
  simp [ccStep, ccPhase, h]

theorem ccStep_waitingForEnd {cfg : Config} {r : Regs} (h : r.ccState = 2#3) :
    ccStep cfg r = ccWaitingForEnd cfg r := by
  simp [ccStep, ccPhase, h]

theorem ccStep_ignoring {cfg : Config} {r : Regs} (h : r.ccState = 3#3) :
    ccStep cfg r = ccIgnoring r := by
  simp [ccStep, ccPhase, h]

theorem ccStep_unrecognized {cfg : Config} {r : Regs} (h : 4 ≤ r.ccState.toNat) :
    ccStep cfg r = ccRecover r := by
  have hphase : ccPhase r.ccState = .unrecognized := by
    generalize r.ccState = s at h
    revert s
    decide
  simp [ccStep, hphase]

theorem posStep_atRest {cfg : Config} {b : Bit} {r : Regs} (h : r.posState = 0#3) :
    posStep cfg b r = posAtRest cfg b r := by
  simp [posStep, posPhase, h]

theorem posStep_movingUp {cfg : Config} {b : Bit} {r : Regs} (h : r.posState = 1#3) :
    posStep cfg b r = posMovingUp cfg r := by
  simp [posStep, posPhase, h]

theorem posStep_movingDown {cfg : Config} {b : Bit} {r : Regs} (h : r.posState = 2#3) :
    posStep cfg b r = posMovingDown cfg r := by
  simp [posStep, posPhase, h]

theorem posStep_waitingUp {cfg : Config} {b : Bit} {r : Regs} (h : r.posState = 3#3) :
    posStep cfg b r = posWaitingUp r := by
  simp [posStep, posPhase, h]

theorem posStep_waitingDown {cfg : Config} {b : Bit} {r : Regs} (h : r.posState = 4#3) :
    posStep cfg b r = posWaitingDown r := by
  simp [posStep, posPhase, h]

/-- A motion leaves AtRest, whichever way it goes (41_positioning.md R122). -/
theorem directionCode_ne_atRest (t c : Nat) : directionCode t c ≠ 0#3 := by
  unfold directionCode; split <;> decide

/-! ### The write sets of the operations -/

/-- TICK writes no register of FG alone (10_state.md R45). -/
theorem tickRegs_frame (cfg : Config) (l : Bit) (r : Regs) :
    (tickRegs cfg l r).dcCur = r.dcCur ∧ (tickRegs cfg l r).dcTgt = r.dcTgt ∧
    (tickRegs cfg l r).posState = r.posState ∧ (tickRegs cfg l r).ccState = r.ccState ∧
    (tickRegs cfg l r).cmd = r.cmd ∧ (tickRegs cfg l r).ind = r.ind := by
  simp [tickRegs]

/-- FG writes no register of TICK or EDGE alone (10_state.md R45). -/
theorem fgRegs_frame (cfg : Config) (b : Bit) (r : Regs) :
    (fgRegs cfg b r).pwmCnt = r.pwmCnt ∧ (fgRegs cfg b r).pwmOut = r.pwmOut ∧
    (fgRegs cfg b r).rfState = r.rfState ∧ (fgRegs cfg b r).rfCnt = r.rfCnt ∧
    (fgRegs cfg b r).rfDet = r.rfDet ∧ (fgRegs cfg b r).edgeEn = r.edgeEn ∧
    (fgRegs cfg b r).prescCnt = r.prescCnt ∧ (fgRegs cfg b r).edgePend = r.edgePend := by
  simp [fgRegs]

/-! ### What operations, steps and runs keep of the state -/

/-- An operation that answers next leaves a running block under the same configuration. -/
theorem exec_next_cfg_running {i : Instr} {s t : State} (h : exec i s = .next t) :
    t.cfg = s.cfg ∧ ∃ r, t.block = .running r := by
  rcases exec_next_cases h with ⟨_, _, -, -, rfl⟩ | ⟨_, -, -, rfl⟩ | ⟨_, _, -, -, rfl⟩ |
    ⟨_, r, -, hr, rfl⟩ | ⟨-, -, rfl⟩
  case inr.inr.inr.inl => exact ⟨rfl, r, hr⟩
  all_goals exact ⟨rfl, _, rfl⟩

/-- `t` has the configuration of `s`, and runs if `s` does (10_state.md R48, R37). -/
abbrev KeepsCfgAndRunning (s t : State) : Prop :=
  t.cfg = s.cfg ∧ ((∃ r, s.block = .running r) → ∃ r, t.block = .running r)

theorem KeepsCfgAndRunning.trans {s t u : State} (hst : KeepsCfgAndRunning s t)
    (htu : KeepsCfgAndRunning t u) : KeepsCfgAndRunning s u :=
  ⟨htu.1.trans hst.1, htu.2 ∘ hst.2⟩

theorem step_next_keepsCfgAndRunning {s t : State} (h : step s = .next t) :
    KeepsCfgAndRunning s t := by
  rcases step_next_cases h with ⟨-, rfl⟩ | ⟨_, _, _, -, -, he⟩
  · exact ⟨rfl, id⟩
  · obtain ⟨hcfg, hrun⟩ := exec_next_cfg_running he
    exact ⟨hcfg, fun _ => hrun⟩

/-- A step of a run goes to the state that the step answers, or past a refusal. -/
theorem advance_cases (s : State) : step s = .next (advance s) ∨ advance s = afterRefusal s := by
  unfold advance
  split
  · next t ht => exact .inl ht
  · exact .inr rfl
  · next f _ => cases f

/-- What every step of a run keeps, any number of steps keeps. -/
theorem advanceN_keeps {P : State → Prop} (hstep : ∀ s, P s → P (advance s)) :
    ∀ (n : Nat) {s : State}, P s → P (advanceN n s)
  | 0, _, h => h
  | n + 1, _, h => advanceN_keeps hstep n (hstep _ h)

/-- Every step of a run keeps the configuration and a running block, refused or not. -/
theorem advance_keepsCfgAndRunning (s : State) : KeepsCfgAndRunning s (advance s) := by
  rcases advance_cases s with hnext | hrefused
  · exact step_next_keepsCfgAndRunning hnext
  · rw [hrefused]; exact ⟨rfl, id⟩

end Sys2Proof.Machine

namespace Sys2Proof.Safety

open Sys2Proof.Machine

/-! ### The invariant in parts, one for each unit

Each part is a structure over the values of the unit's registers, so that a step of another unit
keeps it by the frame lemmas alone. -/

/-- R46(b) to (d), with R42 and R24, of the values of `DC_CUR`, `DC_TGT` and `POS_STATE`. -/
structure PosValuesInv (c : Config) (dcCur dcTgt : Word) (posState : Code) : Prop where
  dcCur_le : dcCur.toNat ≤ c.maxStep
  atRest_target : posState = 0#3 → dcCur = dcTgt
  up_le : posState = 1#3 ∨ posState = 3#3 → dcCur.toNat ≤ dcTgt.toNat
  down_ge : posState = 2#3 ∨ posState = 4#3 → dcTgt.toNat ≤ dcCur.toNat
  posState_code : posState.toNat ≤ 4
  dcTgt_value : dcTgt.toNat = c.posStart ∨ dcTgt.toNat = c.posEnd ∨ dcTgt.toNat = c.initDc

/-- The ramp controller's part of `RegsInv`. -/
abbrev PosInv (c : Config) (r : Regs) : Prop := PosValuesInv c r.dcCur r.dcTgt r.posState

/-- R46(e) to (g), with R42 and R28, of the values of `RF_STATE`, `RF_CNT`, `EDGE_EN` and
`EDGE_PEND`. -/
structure RfValuesInv (c : Config) (rfState : Code) (rfCnt : Word) (edgeEn edgePend : Bit) :
    Prop where
  edgeEn_iff : edgeEn = 1#1 ↔ rfState = 0#3
  rfCnt_zero : rfState = 0#3 ∨ rfState = 3#3 → rfCnt = 0#16
  edgePend_latch : edgePend = 1#1 → edgeEn = 0#1 ∧ c.edgePendingMode = .latch
  rfState_code : rfState.toNat ≤ 3
  rfCnt_le : rfCnt.toNat ≤ max c.countHigh (max c.countLow 1) - 1

/-- The RF qualifier's part of `RegsInv`. -/
abbrev RfInv (c : Config) (r : Regs) : Prop := RfValuesInv c r.rfState r.rfCnt r.edgeEn r.edgePend

/-- R46(h), with R42, of the values of `CC_STATE` and `IND`. -/
structure CcValuesInv (ccState : Code) (ind : Bit) : Prop where
  ind_iff : ind = 1#1 ↔ ccState = 2#3
  ccState_code : ccState.toNat ≤ 3

/-- The command confirmation's part of `RegsInv`. -/
abbrev CcInv (r : Regs) : Prop := CcValuesInv r.ccState r.ind

/-- The invariant is its parts and the clauses on `PWM_CNT`, `POS_DELAY`, `CMD` and `PRESC_CNT`. -/
theorem regsInv_iff (c : Config) (r : Regs) :
    RegsInv c r ↔
      r.pwmCnt.toNat < c.maxStep ∧ PosInv c r ∧ r.posDelay.toNat ≤ c.speed ∧ RfInv c r ∧ CcInv r ∧
      (r.cmd = 1#1 → r.ccState = 3#3 ∧ r.posState ≠ 0#3) ∧ r.prescCnt.toNat < c.prescale := by
  constructor
  · rintro ⟨ha, hb, hc, hup, hdown, he, hf, hg, hh, hi, hj, hk, hpos, hrf, hcc, htgt, hcnt⟩
    exact ⟨ha, ⟨hb, hc, hup, hdown, hpos, htgt⟩, hk, ⟨he, hf, hg, hrf, hcnt⟩, ⟨hh, hcc⟩, hi, hj⟩
  · rintro ⟨ha, ⟨hb, hc, hup, hdown, hpos, htgt⟩, hk, ⟨he, hf, hg, hrf, hcnt⟩, ⟨hh, hcc⟩, hi, hj⟩
    exact ⟨ha, hb, hc, hup, hdown, he, hf, hg, hh, hi, hj, hk, hpos, hrf, hcc, htgt, hcnt⟩

/-! ### PWM_STEP and COUNTDOWN_STEP -/

/-- PWM_STEP keeps the counter inside the period, from any value (R46(a)). -/
theorem pwmStep_pwmCnt_lt {c : Config} (w : c.WellFormed) (r : Regs) :
    (pwmStep c r).pwmCnt.toNat < c.maxStep := by
  by_cases hwrap : c.maxStep ≤ r.pwmCnt.toNat + 1
  · rw [(pwmStep_wrap hwrap).1]
    exact w.maxStep_pos
  · rw [(pwmStep_count w.maxStep_le (by omega)).1]
    omega

/-- COUNTDOWN_STEP keeps the prescaler inside a unit, from any value (R46(j)). -/
theorem countdownStep_prescCnt_lt {c : Config} (w : c.WellFormed) (r : Regs) :
    (countdownStep c r).prescCnt.toNat < c.prescale := by
  by_cases hwrap : c.prescale ≤ r.prescCnt.toNat + 1
  · rw [countdownStep_wrap hwrap]
    exact w.prescale_pos
  · have hle := w.prescale_le
    rw [countdownStep_count (by omega)]
    dsimp only
    rw [ofNat16_toNat (by omega)]
    omega

/-! ### RF_STEP and RF_EDGE -/

section
variable {c : Config} {s : Code} {n : Word} {e p : Bit}

/-- Idle, with notifications armed and no edge kept, meets the qualifier's part. -/
theorem RfValuesInv.idle (hp : p ≠ 1#1) : RfValuesInv c 0#3 0#16 1#1 p :=
  ⟨by decide, fun _ => rfl, fun h => absurd h hp, by decide, Nat.zero_le _⟩

/-- Another recognized state, with the run counter at 0 and notifications disarmed, does so too. -/
theorem RfValuesInv.disarmed (t : Code) (ht : t ≠ 0#3 ∧ t.toNat ≤ 3)
    (hp : p = 1#1 → c.edgePendingMode = .latch) : RfValuesInv c t 0#16 0#1 p :=
  ⟨by simp [ht.1], fun _ => rfl, fun h => ⟨rfl, hp h⟩, ht.2, Nat.zero_le _⟩

/-- Notifications are disarmed outside Idle. -/
theorem RfValuesInv.edgeEn_zero (h : RfValuesInv c s n e p) (hs : s ≠ 0#3) : e = 0#1 :=
  (BitVec.eq_zero_or_eq_one e).resolve_right fun he => hs (h.edgeEn_iff.mp he)

/-- A transition between two states other than Idle keeps the qualifier's part. -/
theorem RfValuesInv.transition (h : RfValuesInv c s n e p) (hs : s ≠ 0#3) (t : Code)
    (ht : t ≠ 0#3 ∧ t.toNat ≤ 3) : RfValuesInv c t 0#16 e p := by
  rw [h.edgeEn_zero hs]
  exact .disarmed t ht fun hp => (h.edgePend_latch hp).2

/-- A sample counted below a threshold keeps the qualifier's part. -/
theorem RfValuesInv.count (h : RfValuesInv c s n e p) (hs : s = 1#3 ∨ s = 2#3) {m : Nat}
    (hm : m < 65536) (hle : m ≤ max c.countHigh (max c.countLow 1) - 1) :
    RfValuesInv c s (BitVec.ofNat 16 m) e p := by
  refine ⟨h.edgeEn_iff, ?_, h.edgePend_latch, h.rfState_code, by rwa [ofNat16_toNat hm]⟩
  rcases hs with rfl | rfl <;> simp

/-- The qualifier holds a recognized code (R42). -/
theorem RfValuesInv.state_cases (h : RfValuesInv c s n e p) :
    s = 0#3 ∨ s = 1#3 ∨ s = 2#3 ∨ s = 3#3 := by
  have hcode := h.rfState_code
  bv_omega

end

section
variable {c : Config} {r : Regs}

theorem rearm_rfInv (h : RfInv c r) : RfInv c (rearm c r) := by
  by_cases hkept : c.edgePendingMode = .latch ∧ r.edgePend = 1#1
  · rw [rearm_latched hkept]
    exact .disarmed 1#3 (by decide) fun _ => hkept.1
  · rw [rearm_armed hkept]
    exact .idle fun hp => hkept ⟨(h.edgePend_latch hp).2, hp⟩

theorem detectHighOnHigh_rfInv (w : c.WellFormed) (hs : r.rfState = 1#3) (h : RfInv c r) :
    RfInv c (detectHighOnHigh c r) := by
  have hfit := w.countHigh_le
  unfold detectHighOnHigh
  dsimp only
  split
  · exact h.transition (by simp [hs]) 2#3 (by decide)
  · exact h.count (.inl hs) (by omega) (by omega)

theorem detectHighOnLow_rfInv (hs : r.rfState = 1#3) (h : RfInv c r) :
    RfInv c (detectHighOnLow c r) := by
  unfold detectHighOnLow
  split
  · exact h.transition (by simp [hs]) 2#3 (by decide)
  · exact h.transition (by simp [hs]) 3#3 (by decide)

theorem detectLowOnLow_rfInv (w : c.WellFormed) (hs : r.rfState = 2#3) (h : RfInv c r) :
    RfInv c (detectLowOnLow c r) := by
  have hfit := w.countLow_le
  unfold detectLowOnLow
  dsimp only
  split
  · exact h.transition (by simp [hs]) 3#3 (by decide)
  · exact h.count (.inr hs) (by omega) (by omega)

theorem detectLowOnHigh_rfInv (hs : r.rfState = 2#3) (h : RfInv c r) :
    RfInv c (detectLowOnHigh c r) :=
  h.transition (by simp [hs]) 3#3 (by decide)

/-- RF_STEP keeps the qualifier's part, whatever the line level. -/
theorem rfStep_rfInv (w : c.WellFormed) (l : Bit) (h : RfInv c r) : RfInv c (rfStep c l r) := by
  rcases h.state_cases with hs | hs | hs | hs
  · rwa [rfStep_idle hs]
  · rw [rfStep_detectHigh hs]
    split
    · exact detectHighOnHigh_rfInv w hs h
    · exact detectHighOnLow_rfInv hs h
  · rw [rfStep_detectLow hs]
    split
    · exact detectLowOnHigh_rfInv hs h
    · exact detectLowOnLow_rfInv w hs h
  · rw [rfStep_detectEnd hs]
    split
    · exact rearm_rfInv h
    · exact h

theorem gatedRfStep_rfInv (w : c.WellFormed) (l : Bit) (h : RfInv c r) :
    RfInv c (gatedRfStep c l r) := by
  unfold gatedRfStep
  split
  · exact rfStep_rfInv w l h
  · exact h

/-- RF_EDGE keeps the qualifier's part: an edge is kept in latch mode alone, and only while
disarmed (42_rf_qualifier.md R151). -/
theorem rfEdge_rfInv (h : RfInv c r) : RfInv c (rfEdge c r) := by
  unfold rfEdge
  split
  · exact .disarmed 1#3 (by decide) fun hp => (h.edgePend_latch hp).2
  · next hen =>
    have hoff : r.edgeEn = 0#1 := (BitVec.eq_zero_or_eq_one _).resolve_right hen
    split
    · next hmode =>
      exact ⟨h.edgeEn_iff, h.rfCnt_zero, fun _ => ⟨hoff, hmode⟩, h.rfState_code, h.rfCnt_le⟩
    · exact h

end

/-! ### CC_STEP -/

/-- Command confirmation holds a recognized code (R42). -/
theorem CcValuesInv.state_cases {s : Code} {i : Bit} (h : CcValuesInv s i) :
    s = 0#3 ∨ s = 1#3 ∨ s = 2#3 ∨ s = 3#3 := by
  have hcode := h.ccState_code
  bv_omega

/-- A transition between two states other than WaitingForEnd leaves the indicator off. -/
theorem CcValuesInv.transition {s : Code} {i : Bit} (h : CcValuesInv s i) (hs : s ≠ 2#3) (t : Code)
    (ht : t ≠ 2#3 ∧ t.toNat ≤ 3) : CcValuesInv t i :=
  ⟨⟨fun hi => absurd (h.ind_iff.mp hi) hs, fun h2 => absurd h2 ht.1⟩, ht.2⟩

/-- Idle, with the indicator off, meets the part. -/
theorem CcValuesInv.idle : CcValuesInv 0#3 0#1 := ⟨by decide, by decide⟩

/-- WaitingForEnd, with the indicator on, meets the part. -/
theorem CcValuesInv.waitingForEnd : CcValuesInv 2#3 1#1 := ⟨by decide, by decide⟩

/-- Ignoring, with the indicator off, meets the part. -/
theorem CcValuesInv.ignoring : CcValuesInv 3#3 0#1 := ⟨by decide, by decide⟩

section
variable {c : Config} {r : Regs}

theorem ccStep_ccInv (h : CcInv r) : CcInv (ccStep c r) := by
  rcases h.state_cases with hs | hs | hs | hs
  · rw [ccStep_idle hs, ccIdle]
    split
    · exact h.transition (by simp [hs]) 1#3 (by decide)
    · exact h
  · rw [ccStep_validating hs, ccValidating]
    split
    · exact h.transition (by simp [hs]) 0#3 (by decide)
    · split
      · exact .waitingForEnd
      · exact h
  · rw [ccStep_waitingForEnd hs, ccWaitingForEnd]
    split
    · exact h
    · split
      · exact .ignoring
      · exact h
  · rw [ccStep_ignoring hs, ccIgnoring]
    split
    · exact h.transition (by simp [hs]) 0#3 (by decide)
    · exact h

/-- `CMD` after CC_STEP is `cmdAtPosStep`, from every code (44_operations.md R218). -/
theorem ccStep_cmd (c : Config) (r : Regs) : (ccStep c r).cmd = cmdAtPosStep r := by
  have hcode : r.ccState = 0#3 ∨ r.ccState = 1#3 ∨ r.ccState = 2#3 ∨ r.ccState = 3#3 ∨
      4 ≤ r.ccState.toNat := by bv_omega
  rcases hcode with hs | hs | hs | hs | hs
  · rw [ccStep_idle hs, ccIdle]
    split <;> simp [cmdAtPosStep, hs]
  · rw [ccStep_validating hs, ccValidating]
    split
    · simp [cmdAtPosStep, hs]
    · split <;> simp [cmdAtPosStep, hs]
  · rw [ccStep_waitingForEnd hs, ccWaitingForEnd]
    split
    · next hdet => simp [cmdAtPosStep, hs, hdet]
    · next hdet =>
      have hlow : r.rfDet = 0#1 := (BitVec.eq_zero_or_eq_one _).resolve_right hdet
      split <;> simp [cmdAtPosStep, *]
  · rw [ccStep_ignoring hs, ccIgnoring]
    split <;> simp [cmdAtPosStep, *]
  · have h2 : r.ccState ≠ 2#3 := by bv_omega
    have h3 : r.ccState ≠ 3#3 := by bv_omega
    simp [ccStep_unrecognized hs, cmdAtPosStep, h2, h3]

/-- After CC_STEP a command stands in Ignoring alone. It may stand AtRest until the POS_STEP of the
same FG, so this is R46(i) without its clause on `POS_STATE`. -/
theorem ccStep_cmd_ignoring (hcmd : r.cmd = 1#1 → r.ccState = 3#3)
    (hset : (ccStep c r).cmd = 1#1) : (ccStep c r).ccState = 3#3 := by
  rw [ccStep_cmd, cmdAtPosStep] at hset
  split at hset
  · next hend =>
    obtain ⟨hs, hdet, htimer⟩ := hend
    simp [ccStep_waitingForEnd hs, ccWaitingForEnd, hdet, htimer]
  · split at hset
    · exact absurd hset (by decide)
    · next hrest =>
      have hs := hcmd hset
      simp [ccStep_ignoring hs, ccIgnoring, show r.ccTimer ≠ 0#16 from fun ht => hrest ⟨hs, ht⟩, hs]

end

/-! ### POS_STEP -/

section
variable {c : Config} {cur tgt : Word} {s : Code}

/-- A motion upwards, with the target not below, meets the ramp controller's part. -/
theorem PosValuesInv.up (hcur : cur.toNat ≤ c.maxStep) (hle : cur.toNat ≤ tgt.toNat)
    (htgt : tgt.toNat = c.posStart ∨ tgt.toNat = c.posEnd ∨ tgt.toNat = c.initDc)
    (hs : s = 1#3 ∨ s = 3#3) : PosValuesInv c cur tgt s := by
  rcases hs with rfl | rfl <;>
    exact ⟨hcur, by simp, fun _ => hle, by simp, by decide, htgt⟩

/-- A motion downwards, with the target not above, does so too. -/
theorem PosValuesInv.down (hcur : cur.toNat ≤ c.maxStep) (hle : tgt.toNat ≤ cur.toNat)
    (htgt : tgt.toNat = c.posStart ∨ tgt.toNat = c.posEnd ∨ tgt.toNat = c.initDc)
    (hs : s = 2#3 ∨ s = 4#3) : PosValuesInv c cur tgt s := by
  rcases hs with rfl | rfl <;>
    exact ⟨hcur, by simp, by simp, fun _ => hle, by decide, htgt⟩

/-- The direction chosen for a motion is the side its target lies on (41_positioning.md R122). -/
theorem PosValuesInv.motion (hcur : cur.toNat ≤ c.maxStep)
    (htgt : tgt.toNat = c.posStart ∨ tgt.toNat = c.posEnd ∨ tgt.toNat = c.initDc) :
    PosValuesInv c cur tgt (directionCode tgt.toNat cur.toNat) := by
  unfold directionCode
  split
  · exact .up hcur (by omega) htgt (.inl rfl)
  · exact .down hcur (by omega) htgt (.inl rfl)

/-- AtRest at the target meets it, at the values of any ramp state. -/
theorem PosValuesInv.atRest (h : PosValuesInv c cur tgt s) (heq : cur = tgt) :
    PosValuesInv c cur tgt 0#3 :=
  ⟨h.dcCur_le, fun _ => heq, by simp, by simp, by decide, h.dcTgt_value⟩

/-- The ramp controller holds a recognized code (R42). -/
theorem PosValuesInv.state_cases (h : PosValuesInv c cur tgt s) :
    s = 0#3 ∨ s = 1#3 ∨ s = 2#3 ∨ s = 3#3 ∨ s = 4#3 := by
  have hcode := h.posState_code
  bv_omega

/-- A target is a duty cycle (00_scope.md R8). -/
theorem PosValuesInv.dcTgt_le (w : c.WellFormed) (h : PosValuesInv c cur tgt s) :
    tgt.toNat ≤ c.maxStep := by
  have hstart := w.posStart_le
  have hend := w.posEnd_le
  have hinit := w.initDc_le
  rcases h.dcTgt_value with ht | ht | ht <;> omega

end

section
variable {c : Config} {r : Regs}

/-- A trigger AtRest starts a motion to an endpoint (41_positioning.md R123). -/
theorem posAtRest_posInv (w : c.WellFormed) (b : Bit) (h : PosInv c r) :
    PosInv c (posAtRest c b r) := by
  unfold posAtRest
  split
  · have hend := selectTarget_endpoint c r.dcCur.toNat
    have hload := loadCfg_toNat (selectTarget c r.dcCur.toNat) (by
      have hmax := w.maxStep_le
      have hstart_le := w.posStart_le
      have hend_le := w.posEnd_le
      omega)
    have hmotion := PosValuesInv.motion (tgt := loadCfg (selectTarget c r.dcCur.toNat)) h.dcCur_le
      (by omega)
    rwa [hload] at hmotion
  · exact h

/-- A unit up does not pass the target (41_positioning.md R124). -/
theorem posMovingUp_posInv (w : c.WellFormed) (hs : r.posState = 1#3) (h : PosInv c r) :
    PosInv c (posMovingUp c r) := by
  unfold posMovingUp
  split
  · next heq => exact h.atRest heq
  · next hne =>
    have hle := h.up_le (.inl hs)
    have htgt := h.dcTgt_le w
    have hlt : r.dcCur.toNat ≠ r.dcTgt.toNat := fun e => hne (BitVec.eq_of_toNat_eq e)
    have hstep : (incTo r.dcCur c.maxStep).toNat = r.dcCur.toNat + 1 := by
      rw [incTo_toNat _ _ w.maxStep_le, if_neg (by omega)]
    exact .up (by dsimp only; omega) (by dsimp only; omega) h.dcTgt_value (.inr rfl)

/-- A unit down does not pass the target (41_positioning.md R125). -/
theorem posMovingDown_posInv (hs : r.posState = 2#3) (h : PosInv c r) :
    PosInv c (posMovingDown c r) := by
  unfold posMovingDown
  split
  · next heq => exact h.atRest heq
  · next hne =>
    have hle := h.down_ge (.inl hs)
    have hcur := h.dcCur_le
    have hlt : r.dcCur.toNat ≠ r.dcTgt.toNat := fun e => hne (BitVec.eq_of_toNat_eq e)
    have hstep := dec0_toNat r.dcCur
    exact .down (by dsimp only; omega) (by dsimp only; omega) h.dcTgt_value (.inr rfl)

/-- POS_STEP keeps the ramp controller's part, whatever the button and the command. -/
theorem posStep_posInv (w : c.WellFormed) (b : Bit) (h : PosInv c r) :
    PosInv c (posStep c b r) := by
  rcases h.state_cases with hs | hs | hs | hs | hs
  · rw [posStep_atRest hs]
    exact posAtRest_posInv w b h
  · rw [posStep_movingUp hs]
    exact posMovingUp_posInv w hs h
  · rw [posStep_movingDown hs]
    exact posMovingDown_posInv hs h
  · rw [posStep_waitingUp hs, posWaitingUp]
    split
    · exact .up h.dcCur_le (h.up_le (.inr hs)) h.dcTgt_value (.inl rfl)
    · exact h
  · rw [posStep_waitingDown hs, posWaitingDown]
    split
    · exact .down h.dcCur_le (h.down_ge (.inr hs)) h.dcTgt_value (.inl rfl)
    · exact h

/-- POS_STEP takes a standing command up AtRest and clears it where it ends a motion, so a command
that stands after it stands in a motion (41_positioning.md R123 to R127). -/
theorem posStep_cmd_moving (b : Bit) (h : PosInv c r) (hset : (posStep c b r).cmd = 1#1) :
    r.cmd = 1#1 ∧ (posStep c b r).posState ≠ 0#3 := by
  rcases h.state_cases with hs | hs | hs | hs | hs
  · rw [posStep_atRest hs, posAtRest] at hset ⊢
    split at hset
    · next htrig => exact ⟨hset, by simpa [if_pos htrig] using directionCode_ne_atRest _ _⟩
    · next hidle => exact absurd (.inr hset) hidle
  · rw [posStep_movingUp hs, posMovingUp] at hset ⊢
    split at hset
    · exact absurd hset (by simp)
    · next hne => simpa [if_neg hne] using hset
  · rw [posStep_movingDown hs, posMovingDown] at hset ⊢
    split at hset
    · exact absurd hset (by simp)
    · next hne => simpa [if_neg hne] using hset
  · rw [posStep_waitingUp hs, posWaitingUp] at hset ⊢
    split at hset
    · next hend => simpa [if_pos hend] using hset
    · next hrun => simpa [if_neg hrun, hs] using hset
  · rw [posStep_waitingDown hs, posWaitingDown] at hset ⊢
    split at hset
    · next hend => simpa [if_pos hend] using hset
    · next hrun => simpa [if_neg hrun, hs] using hset

/-- POS_STEP keeps the step delay within `SPEED` (R46(k)). -/
theorem posStep_posDelay_le (w : c.WellFormed) (b : Bit) (h : PosInv c r)
    (hdelay : r.posDelay.toNat ≤ c.speed) : (posStep c b r).posDelay.toNat ≤ c.speed := by
  have hload : (loadCfg c.speed).toNat ≤ c.speed := (loadCfg_toNat _ w.speed_le).le
  rcases h.state_cases with hs | hs | hs | hs | hs
  · rw [posStep_atRest hs, posAtRest]
    split <;> exact hdelay
  · rw [posStep_movingUp hs, posMovingUp]
    split
    · exact hdelay
    · exact hload
  · rw [posStep_movingDown hs, posMovingDown]
    split
    · exact hdelay
    · exact hload
  · rw [posStep_waitingUp hs, posWaitingUp]
    split <;> exact hdelay
  · rw [posStep_waitingDown hs, posWaitingDown]
    split <;> exact hdelay

/-! ### The operations -/

/-- TICK keeps the invariant: PWM_STEP, RF_STEP and COUNTDOWN_STEP each keep their own clauses. -/
theorem tickRegs_regsInv (w : c.WellFormed) (l : Bit) (h : RegsInv c r) :
    RegsInv c (tickRegs c l r) := by
  obtain ⟨-, hpos, hdelay, hrf, hcc, hcmd, -⟩ := (regsInv_iff c r).mp h
  have hrf' : RfInv c (gatedRfStep c l (pwmStep c r)) :=
    gatedRfStep_rfInv w l (by simpa [RfInv] using hrf)
  refine (regsInv_iff c _).mpr ⟨?_, ?_, ?_, ?_, ?_, ?_, countdownStep_prescCnt_lt w _⟩
  · simpa [tickRegs] using pwmStep_pwmCnt_lt w r
  · simpa [tickRegs, PosInv] using hpos
  · simp only [tickRegs, countdownStep_posDelay, gatedRfStep_posDelay, pwmStep_posDelay, dec0_toNat]
    omega
  · simpa [tickRegs, RfInv] using hrf'
  · simpa [tickRegs, CcInv] using hcc
  · simpa [tickRegs] using hcmd

/-- EDGE keeps the invariant: it writes the qualifier's registers alone. -/
theorem rfEdge_regsInv (h : RegsInv c r) : RegsInv c (rfEdge c r) := by
  obtain ⟨hpwm, hpos, hdelay, hrf, hcc, hcmd, hpresc⟩ := (regsInv_iff c r).mp h
  have hrf' := rfEdge_rfInv hrf
  refine (regsInv_iff c _).mpr ⟨?_, ?_, ?_, hrf', ?_, ?_, ?_⟩
  · simpa using hpwm
  · simpa [PosInv] using hpos
  · simpa using hdelay
  · simpa [CcInv] using hcc
  · simpa using hcmd
  · simpa using hpresc

/-- FG keeps the invariant: a command that CC_STEP sets AtRest is taken up by the POS_STEP after it
(44_operations.md R218). -/
theorem fgRegs_regsInv (w : c.WellFormed) (b : Bit) (h : RegsInv c r) :
    RegsInv c (fgRegs c b r) := by
  obtain ⟨hpwm, hpos, hdelay, hrf, hcc, hcmd, hpresc⟩ := (regsInv_iff c r).mp h
  have hpos' : PosInv c (ccStep c r) := by simpa [PosInv] using hpos
  have hcc' : CcInv (ccStep c r) := ccStep_ccInv hcc
  refine (regsInv_iff c _).mpr ⟨?_, posStep_posInv w b hpos', ?_, ?_, ?_, fun hset => ?_, ?_⟩
  · simpa [fgRegs] using hpwm
  · exact posStep_posDelay_le w b hpos' (by simpa using hdelay)
  · simpa [fgRegs, RfInv] using hrf
  · simpa [fgRegs, CcInv] using hcc'
  · obtain ⟨hmid, hmoving⟩ := posStep_cmd_moving b hpos' hset
    exact ⟨by simpa [fgRegs] using ccStep_cmd_ignoring (fun hc => (hcmd hc).1) hmid, hmoving⟩
  · simpa [fgRegs] using hpresc

end

/-- RESET leaves registers that meet the invariant (44_operations.md R215). -/
theorem resetRegs_regsInv {c : Config} (w : c.WellFormed) : RegsInv c (resetRegs c) := by
  have hmax := w.maxStep_le
  have hinit := w.initDc_le
  have hload : (BitVec.ofNat 16 c.initDc).toNat = c.initDc := ofNat16_toNat (by omega)
  refine (regsInv_iff c _).mpr ⟨w.maxStep_pos, ?_, Nat.zero_le _, .idle (by simp), .idle,
    by simp, w.prescale_pos⟩
  exact ⟨by simpa [hload] using hinit, fun _ => rfl, by simp, by simp, by simp,
    .inr (.inr hload)⟩

/-! ### States, steps and runs -/

theorem stateInv_unreset {s : State} (h : s.block = .unreset) : StateInv s := by
  simp [StateInv, h]

theorem stateInv_running {s : State} {r : Regs} (h : s.block = .running r) :
    StateInv s ↔ s.cfg.WellFormed ∧ RegsInv s.cfg r := by
  simp [StateInv, h]

/-- Every operation that answers next keeps the invariant. -/
theorem exec_next_stateInv {i : Instr} {s t : State} (h : StateInv s) (he : exec i s = .next t) :
    StateInv t := by
  rcases exec_next_cases he with ⟨l, r, -, hr, rfl⟩ | ⟨r, -, hr, rfl⟩ | ⟨b, r, -, hr, rfl⟩ |
    ⟨x, r, -, hr, rfl⟩ | ⟨-, w, rfl⟩
  · obtain ⟨w, hregs⟩ := (stateInv_running hr).mp h
    exact ⟨w, tickRegs_regsInv w l hregs⟩
  · obtain ⟨w, hregs⟩ := (stateInv_running hr).mp h
    exact ⟨w, rfEdge_regsInv hregs⟩
  · obtain ⟨w, hregs⟩ := (stateInv_running hr).mp h
    exact ⟨w, fgRegs_regsInv w b hregs⟩
  · exact h
  · exact ⟨w, resetRegs_regsInv w⟩

/-- Every step that answers next keeps the invariant. -/
theorem step_next_stateInv {s t : State} (h : StateInv s) (hstep : step s = .next t) :
    StateInv t := by
  rcases step_next_cases hstep with ⟨-, rfl⟩ | ⟨_, rest, _, -, -, he⟩
  · exact h
  · exact exec_next_stateInv (s := { s with pending := rest }) h he

/-- Every step of a run keeps the invariant, refused or not. -/
theorem advance_stateInv {s : State} (h : StateInv s) : StateInv (advance s) := by
  rcases advance_cases s with hnext | hrefused
  · exact step_next_stateInv h hnext
  · rw [hrefused]; exact h

end Sys2Proof.Safety

namespace Sys2Proof.Proofs

open Sys2Proof.Machine Sys2Proof.Safety

/-- Settles O58: each operation keeps the invariant, because each unit step keeps its own part and
leaves the registers of the others. -/
theorem stepKeepsInvariant : Obligations.StepKeepsInvariant :=
  fun _ _ h hstep => step_next_stateInv h hstep

/-- Settles O16, by induction on the steps. -/
theorem configurationIsFixedAndResetIsKept : Obligations.ConfigurationIsFixedAndResetIsKept :=
  fun n s => advanceN_keeps (P := KeepsCfgAndRunning s)
    (fun t h => h.trans (advance_keepsCfgAndRunning t)) n ⟨rfl, id⟩

/-- Settles O57, operation by operation, by the frame of each. -/
theorem operationsWriteOnlyTheirWriteSet : Obligations.OperationsWriteOnlyTheirWriteSet := by
  intro i s t r hr he
  cases i with
  | tick l =>
    obtain ⟨r₀, hr₀, rfl⟩ := onRunning_next he
    obtain rfl : r = r₀ := Block.running.inj (hr.symm.trans hr₀)
    refine ⟨_, rfl, rfl, rfl, rfl, fun _ => rfl, ?_, fun _ => tickRegs_frame s.cfg l r, ?_, ?_⟩ <;>
      simp
  | edge =>
    obtain ⟨r₀, hr₀, rfl⟩ := onRunning_next he
    obtain rfl : r = r₀ := Block.running.inj (hr.symm.trans hr₀)
    refine ⟨_, rfl, rfl, rfl, rfl, fun _ => rfl, ?_, ?_, ?_, ?_⟩ <;> simp
  | fg b =>
    obtain ⟨r₀, hr₀, rfl⟩ := onRunning_next he
    obtain rfl : r = r₀ := Block.running.inj (hr.symm.trans hr₀)
    refine ⟨_, rfl, rfl, rfl, rfl, fun _ => rfl, ?_, ?_, ?_, fun _ => fgRegs_frame s.cfg b r⟩ <;>
      simp
  | obs x =>
    obtain ⟨-, -, rfl⟩ := onRunning_next he
    refine ⟨r, hr, rfl, rfl, rfl, fun h => absurd rfl (h x), fun _ => ⟨rfl, _, rfl⟩, ?_, ?_, ?_⟩ <;>
      simp
  | reset =>
    obtain ⟨-, rfl⟩ := execReset_next he
    refine ⟨_, rfl, rfl, rfl, rfl, fun _ => rfl, ?_, ?_, ?_, ?_⟩ <;> simp

/-- Settles O60: power-on meets the invariant, as Unreset, and every step of a run keeps it. -/
theorem runsFromPowerOnMeetInvariant : Obligations.RunsFromPowerOnMeetInvariant :=
  fun c ws => advanceN_keeps (P := StateInv) (fun _ => advance_stateInv) ws.length
    (stateInv_unreset (s := issue ws (State.powerOn c)) rfl)

/-- Settles O10: the guard of every operation but RESET finds the block Unreset. -/
theorem unresetRefusesAllButReset : Obligations.UnresetRefusesAllButReset := by
  refine ⟨fun _ => rfl, fun i s hblock hi => ?_⟩
  cases i with
  | tick l => exact onRunning_unreset hblock
  | edge => exact onRunning_unreset hblock
  | fg b => exact onRunning_unreset hblock
  | obs x => exact onRunning_unreset hblock
  | reset => exact absurd rfl hi

/-- Settles O59: RESET's registers meet the invariant, and RESET answers next only under a
well-formed configuration, as RC1 is. -/
theorem resetMeetsInvariant : Obligations.ResetMeetsInvariant := by
  have hreset (c : Config) (w : c.WellFormed) : StateInv (State.resetWith c) :=
    ⟨w, resetRegs_regsInv w⟩
  refine ⟨hreset Config.rc1 (by constructor <;> decide), hreset, fun s t he => ?_⟩
  obtain ⟨w, rfl⟩ := execReset_next he
  exact ⟨w, resetRegs_regsInv w⟩

end Sys2Proof.Proofs

/-! SUPPORT. Proofs about the encoding (30_encoding.md): the decoder R90 and the encoder R82 to R86 are
inverse to each other, the opcode map R87 and the reserved words R88, and the assembler line R92. -/

namespace Sys2Proof

/-! ### The decoder, one equation per value of `OP` -/

section
variable {w : OpWord}

theorem decode_of_op_tick (hop : opField w = 0b001#3) :
    decode w = if w.extractLsb' 1 4 = 0#4 then .ok (.tick (w.extractLsb' 0 1))
      else .error (.reservedEncoding w) := by
  simp [decode, hop]

theorem decode_of_op_edge (hop : opField w = 0b010#3) :
    decode w = if w.extractLsb' 0 5 = 0#5 then .ok .edge else .error (.reservedEncoding w) := by
  simp [decode, hop]

theorem decode_of_op_fg (hop : opField w = 0b011#3) :
    decode w = if w.extractLsb' 1 4 = 0#4 then .ok (.fg (w.extractLsb' 0 1))
      else .error (.reservedEncoding w) := by
  simp [decode, hop]

theorem decode_of_op_obs (hop : opField w = 0b100#3) :
    decode w = if w.extractLsb' 4 1 = 0#1 then .ok (.obs (w.extractLsb' 0 4))
      else .error (.reservedEncoding w) := by
  simp [decode, hop]

theorem decode_of_op_reset (hop : opField w = 0b111#3) :
    decode w = if w.extractLsb' 0 5 = 0#5 then .ok .reset else .error (.reservedEncoding w) := by
  simp [decode, hop]

theorem decode_of_op_reserved
    (hop : opField w = 0b000#3 ∨ opField w = 0b101#3 ∨ opField w = 0b110#3) :
    decode w = .error (.reservedEncoding w) := by
  rcases hop with hop | hop | hop <;> simp [decode, hop]

/-- The opcode map R87: the five opcodes that are assigned and the three that are not. -/
theorem opField_cases (w : OpWord) :
    opField w = 0b001#3 ∨ opField w = 0b010#3 ∨ opField w = 0b011#3 ∨ opField w = 0b100#3 ∨
    opField w = 0b111#3 ∨ (opField w = 0b000#3 ∨ opField w = 0b101#3 ∨ opField w = 0b110#3) := by
  generalize opField w = op
  revert op
  decide

/-! ### What the decoder reads, and what it reports -/

/-- An arm of the decoder answers its operation only where its must-be-zero bits pass the test. -/
theorem ite_ok_eq_ok {p : Prop} [Decidable p] {x i : Instr} {e : DecodeError}
    (h : (if p then .ok x else .error e : Except DecodeError Instr) = .ok i) : p ∧ i = x := by
  split at h
  · next hp => exact ⟨hp, (Except.ok.inj h).symm⟩
  · cases h

/-- All the decoder can read from a word (R90): the `OP` of the operation, its must-be-zero bits at 0,
and its operand in the bits left. -/
theorem decode_ok_cases {i : Instr} (h : decode w = .ok i) :
    (opField w = 0b001#3 ∧ w.extractLsb' 1 4 = 0#4 ∧ i = .tick (w.extractLsb' 0 1)) ∨
    (opField w = 0b010#3 ∧ w.extractLsb' 0 5 = 0#5 ∧ i = .edge) ∨
    (opField w = 0b011#3 ∧ w.extractLsb' 1 4 = 0#4 ∧ i = .fg (w.extractLsb' 0 1)) ∨
    (opField w = 0b100#3 ∧ w.extractLsb' 4 1 = 0#1 ∧ i = .obs (w.extractLsb' 0 4)) ∨
    (opField w = 0b111#3 ∧ w.extractLsb' 0 5 = 0#5 ∧ i = .reset) := by
  rcases opField_cases w with hop | hop | hop | hop | hop | hop
  · obtain ⟨hzero, rfl⟩ := ite_ok_eq_ok ((decode_of_op_tick hop).symm.trans h)
    exact .inl ⟨hop, hzero, rfl⟩
  · obtain ⟨hzero, rfl⟩ := ite_ok_eq_ok ((decode_of_op_edge hop).symm.trans h)
    exact .inr (.inl ⟨hop, hzero, rfl⟩)
  · obtain ⟨hzero, rfl⟩ := ite_ok_eq_ok ((decode_of_op_fg hop).symm.trans h)
    exact .inr (.inr (.inl ⟨hop, hzero, rfl⟩))
  · obtain ⟨hzero, rfl⟩ := ite_ok_eq_ok ((decode_of_op_obs hop).symm.trans h)
    exact .inr (.inr (.inr (.inl ⟨hop, hzero, rfl⟩)))
  · obtain ⟨hzero, rfl⟩ := ite_ok_eq_ok ((decode_of_op_reset hop).symm.trans h)
    exact .inr (.inr (.inr (.inr ⟨hop, hzero, rfl⟩)))
  · exact absurd ((decode_of_op_reserved hop).symm.trans h) (by simp)

/-- The reserved words of R88: `OP` is not assigned, or a must-be-zero bit of the format is 1. -/
def IsReserved (w : OpWord) : Prop :=
  (opField w = 0b000#3 ∨ opField w = 0b101#3 ∨ opField w = 0b110#3) ∨
  ((opField w = 0b001#3 ∨ opField w = 0b011#3) ∧ w.extractLsb' 1 4 ≠ 0#4) ∨
  ((opField w = 0b010#3 ∨ opField w = 0b111#3) ∧ w.extractLsb' 0 5 ≠ 0#5) ∨
  (opField w = 0b100#3 ∧ w.extractLsb' 4 1 = 1#1)

/-- The decoder reports a word exactly when it is reserved (R88). -/
theorem decode_eq_error_iff (w : OpWord) :
    decode w = .error (.reservedEncoding w) ↔ IsReserved w := by
  have hbit : w.extractLsb' 4 1 = 1#1 ↔ w.extractLsb' 4 1 ≠ 0#1 := by bv_omega
  rcases opField_cases w with hop | hop | hop | hop | hop | hop
  · simp [decode_of_op_tick hop, IsReserved, hop]
  · simp [decode_of_op_edge hop, IsReserved, hop]
  · simp [decode_of_op_fg hop, IsReserved, hop]
  · simp [decode_of_op_obs hop, IsReserved, hop, hbit]
  · simp [decode_of_op_reset hop, IsReserved, hop]
  · exact iff_of_true (decode_of_op_reserved hop) (.inl hop)

end

/-! ### A word and its fields (R81) -/

/-- `OP` and the bits below it are the word: EDGE and RESET. -/
theorem opField_append_low (w : OpWord) : opField w ++ w.extractLsb' 0 5 = w :=
  (BitVec.extractLsb'_append_extractLsb'_eq_extractLsb' rfl).trans BitVec.extractLsb'_eq_self

/-- `OP`, four bits and a 1-bit operand are the word: TICK and FG. -/
theorem opField_append_bit (w : OpWord) :
    opField w ++ w.extractLsb' 1 4 ++ w.extractLsb' 0 1 = w := by
  rw [opField, BitVec.extractLsb'_append_extractLsb'_eq_extractLsb' (start₁ := 1) (len₁ := 4) rfl]
  exact (BitVec.extractLsb'_append_extractLsb'_eq_extractLsb' rfl).trans BitVec.extractLsb'_eq_self

/-- `OP`, one bit and a register index are the word: OBS. -/
theorem opField_append_index (w : OpWord) :
    opField w ++ w.extractLsb' 4 1 ++ w.extractLsb' 0 4 = w := by
  rw [opField, BitVec.extractLsb'_append_extractLsb'_eq_extractLsb' (start₁ := 4) (len₁ := 1) rfl]
  exact (BitVec.extractLsb'_append_extractLsb'_eq_extractLsb' rfl).trans BitVec.extractLsb'_eq_self

/-- The fields of a 7-bit pattern with a 1-bit operand behind it. -/
theorem fields_append_bit (p : BitVec 7) (b : Bit) :
    opField (p ++ b) = p.extractLsb' 4 3 ∧ (p ++ b).extractLsb' 1 4 = p.extractLsb' 0 4 ∧
      (p ++ b).extractLsb' 0 1 = b :=
  ⟨BitVec.extractLsb'_append_eq_of_le (by decide), BitVec.extractLsb'_append_eq_of_le (by decide),
    BitVec.extractLsb'_append_eq_right⟩

/-- The fields of a 4-bit pattern with a register index behind it. -/
theorem fields_append_index (p : BitVec 4) (r : RegIndex) :
    opField (p ++ r) = p.extractLsb' 1 3 ∧ (p ++ r).extractLsb' 4 1 = p.extractLsb' 0 1 ∧
      (p ++ r).extractLsb' 0 4 = r :=
  ⟨BitVec.extractLsb'_append_eq_of_le (by decide), BitVec.extractLsb'_append_eq_of_le (by decide),
    BitVec.extractLsb'_append_eq_right⟩

/-! ### The decoder and the encoder are inverse to each other (R90) -/

/-- The fields of an encoded operation select its arm of the decoder, which reads its operand. -/
theorem decode_encode (i : Instr) : decode (encode i) = .ok i := by
  cases i with
  | tick l =>
    obtain ⟨hop, hzero, hbit⟩ := fields_append_bit 0b0010000#7 l
    simp [encode, decode_of_op_tick hop, hzero, hbit]
  | edge => rfl
  | fg b =>
    obtain ⟨hop, hzero, hbit⟩ := fields_append_bit 0b0110000#7 b
    simp [encode, decode_of_op_fg hop, hzero, hbit]
  | obs r =>
    obtain ⟨hop, hzero, hindex⟩ := fields_append_index 0b1000#4 r
    simp [encode, decode_of_op_obs hop, hzero, hindex]
  | reset => rfl

/-- The fields that the decoder has checked and read put the word together again. -/
theorem encode_of_decode_ok {w : OpWord} {i : Instr} (h : decode w = .ok i) : encode i = w := by
  rcases decode_ok_cases h with ⟨hop, hzero, rfl⟩ | ⟨hop, hzero, rfl⟩ | ⟨hop, hzero, rfl⟩ |
    ⟨hop, hzero, rfl⟩ | ⟨hop, hzero, rfl⟩
  · simpa [hop, hzero, encode] using opField_append_bit w
  · simpa [hop, hzero, encode] using opField_append_low w
  · simpa [hop, hzero, encode] using opField_append_bit w
  · simpa [hop, hzero, encode] using opField_append_index w
  · simpa [hop, hzero, encode] using opField_append_low w

theorem decode_eq_ok_iff (w : OpWord) (i : Instr) : decode w = .ok i ↔ encode i = w :=
  ⟨encode_of_decode_ok, fun h => h ▸ decode_encode i⟩

/-! ### The opcode map (R87) -/

theorem exists_bit_iff {P : Bit → Prop} : (∃ b, P b) ↔ P 0#1 ∨ P 1#1 := by
  constructor
  · rintro ⟨b, hb⟩
    rcases BitVec.eq_zero_or_eq_one b with rfl | rfl
    · exact .inl hb
    · exact .inr hb
  · exact fun h => h.elim (fun h0 => ⟨_, h0⟩) (fun h1 => ⟨_, h1⟩)

/-- The OBS words are numbered from 0x80 by the register index. -/
theorem encode_obs_toNat (r : RegIndex) : (encode (.obs r)).toNat = 0x80 + r.toNat := by
  revert r
  decide

theorem exists_encode_obs_iff (w : OpWord) :
    (∃ r, encode (.obs r) = w) ↔ 0x80 ≤ w.toNat ∧ w.toNat ≤ 0x8F := by
  constructor
  · rintro ⟨r, rfl⟩
    have hr := r.isLt
    have hw := encode_obs_toNat r
    omega
  · rintro ⟨hlow, hhigh⟩
    refine ⟨BitVec.ofNat 4 (w.toNat - 0x80), BitVec.eq_of_toNat_eq ?_⟩
    rw [encode_obs_toNat, BitVec.toNat_ofNat]
    omega

/-- The valid words of R87, counted over all words. -/
theorem validWords_length :
    ((List.range 256).filter fun n => (decode (BitVec.ofNat 8 n)).isOk).length = 22 := by
  decide

end Sys2Proof

namespace Sys2Proof.Machine

/-! ### The step that takes a word -/

section
variable {s : State} {w : OpWord} {rest : List OpWord}

/-- A fetch takes the first word waiting and decodes it (log entry 4). -/
theorem fetch_cons (h : s.pending = w :: rest) :
    fetch s = some (decode w, { s with pending := rest }) := by
  simp [fetch, h]

/-- A step whose word is an operation runs that operation. -/
theorem step_of_decode_ok {i : Instr} (h : s.pending = w :: rest) (hd : decode w = .ok i) :
    step s = exec i { s with pending := rest } := by
  simp [step, fetch_cons h, hd]

/-- A step whose word is no operation is Refused (R88). -/
theorem step_of_decode_error {e : DecodeError} (h : s.pending = w :: rest)
    (hd : decode w = .error e) : step s = .refused (refusalOf e) := by
  simp [step, fetch_cons h, hd]

/-- A guarded operation is Refused only while Unreset (44_operations.md R216). -/
theorem onRunning_refused {i : Instr} {f : Regs → State} {ρ : Refusal}
    (h : onRunning i s f = .refused ρ) : s.block = .unreset ∧ ρ = .notReset (encode i) := by
  unfold onRunning at h
  split at h
  · next hu => exact ⟨hu, by injection h with h; exact h.symm⟩
  · cases h

/-- All an operation can be Refused for (60_exceptions.md R231, codes 2 and 3). -/
theorem exec_refused_cases {i : Instr} {ρ : Refusal} (h : exec i s = .refused ρ) :
    (i ≠ .reset ∧ s.block = .unreset ∧ ρ = .notReset (encode i)) ∨
    (i = .reset ∧ ∃ k, failingCondition s.cfg = some k ∧ ρ = .illFormedConfig k) := by
  cases i with
  | tick l => exact .inl ⟨by simp, onRunning_refused h⟩
  | edge => exact .inl ⟨by simp, onRunning_refused h⟩
  | fg b => exact .inl ⟨by simp, onRunning_refused h⟩
  | obs x => exact .inl ⟨by simp, onRunning_refused h⟩
  | reset =>
    cases hk : failingCondition s.cfg with
    | none => simp [exec, execReset, hk] at h
    | some k =>
      rw [exec_reset_refused hk] at h
      exact .inr ⟨rfl, k, rfl, (Host.Outcome.refused.inj h).symm⟩

theorem exec_ne_reservedEncoding (i : Instr) (s : State) (w : OpWord) :
    exec i s ≠ .refused (.reservedEncoding w) := by
  intro h
  rcases exec_refused_cases h with ⟨-, -, hρ⟩ | ⟨-, k, -, hρ⟩ <;> cases hρ

/-- The refusal `ReservedEncoding` is the decoder's alone. -/
theorem step_reservedEncoding_iff (h : s.pending = w :: rest) :
    step s = .refused (.reservedEncoding w) ↔ decode w = .error (.reservedEncoding w) := by
  constructor
  · intro hstep
    cases hd : decode w with
    | ok i =>
      exact absurd ((step_of_decode_ok h hd).symm.trans hstep) (exec_ne_reservedEncoding _ _ _)
    | error e =>
      cases e with
      | reservedEncoding v => simpa [step_of_decode_error h hd, refusalOf] using hstep
  · exact step_of_decode_error h

/-- A run goes past a refused step as R216 says. -/
theorem advance_of_refused {ρ : Refusal} (h : step s = .refused ρ) : advance s = afterRefusal s := by
  simp [advance, h]

end

/-! ### The assembler line (R92) -/

/-- A character that ends no word of a line, is no token by itself and starts no comment. -/
def wordChar (c : Char) : Bool := c ≠ ' ' ∧ c ≠ '\t' ∧ c ≠ '\r' ∧ c ≠ ',' ∧ c ≠ ';'

/-- A word of a line: text that `tokenize` reads as one token. -/
def isWord (t : List Char) : Bool := t ≠ [] ∧ t.all wordChar

theorem dropComment_eq_self {t : List Char} (h : ';' ∉ t) : dropComment t = t := by
  induction t with
  | nil => rfl
  | cons c cs ih =>
    obtain ⟨hc, hcs⟩ := List.ne_and_not_mem_of_not_mem_cons h
    rw [dropComment, if_neg hc.symm, ih hcs]

/-- The tokenizer takes the characters of a word into the word it is reading. -/
theorem tokenize_append {t : List Char} (h : t.all wordChar) (cur rest : List Char) :
    tokenize cur (t ++ rest) = tokenize (t.reverse ++ cur) rest := by
  induction t generalizing cur with
  | nil => rfl
  | cons c cs ih =>
    simp only [List.all_cons, Bool.and_eq_true, wordChar, decide_eq_true_eq] at h
    obtain ⟨⟨hblank, htab, hreturn, hcomma, -⟩, hcs⟩ := h
    simp [tokenize, hblank, htab, hreturn, hcomma, ih hcs]

section
variable {m a : List Char}

theorem isWord_iff : isWord m = true ↔ m ≠ [] ∧ m.all wordChar = true := by
  simp [isWord]

theorem semicolon_notMem (h : isWord m) : ';' ∉ m := fun hmem => by
  simpa [wordChar] using List.all_eq_true.mp (isWord_iff.mp h).2 _ hmem

/-- A word on its own is one token. -/
theorem tokenize_word (h : isWord m) : tokenize [] m = [m] := by
  obtain ⟨hne, hall⟩ := isWord_iff.mp h
  have happ := tokenize_append hall [] []
  simpa [tokenize, hne] using happ

/-- A word with a blank behind it is a token. -/
theorem tokenize_word_blank (h : isWord m) (rest : List Char) :
    tokenize [] (m ++ ' ' :: rest) = m :: tokenize [] rest := by
  obtain ⟨hne, hall⟩ := isWord_iff.mp h
  simp [tokenize_append hall, tokenize, hne]

theorem parseLine_mnemonic (hm : isWord m) : parseLine m = parseZero m := by
  simp [parseLine, dropComment_eq_self (semicolon_notMem hm), tokenize_word hm, parseTokens]

theorem parseLine_operand (hm : isWord m) (ha : isWord a) :
    parseLine (m ++ ' ' :: a) = parseOne m a := by
  have hline : ';' ∉ m ++ ' ' :: a := by
    simp [semicolon_notMem hm, semicolon_notMem ha]
  simp [parseLine, dropComment_eq_self hline, tokenize_word_blank hm, tokenize_word ha, parseTokens]

end

/-! ### The operands of the assembler line -/

/-- The text of a bit is a word that reads back as the bit. -/
theorem bitText_reads (b : Bit) : isWord (bitText b) ∧ bitOperand (bitText b) = some b := by
  rcases BitVec.eq_zero_or_eq_one b with rfl | rfl
  · exact ⟨by decide, rfl⟩
  · exact ⟨by decide, rfl⟩

/-- The name of a register is a word that reads back as the register's index (10_state.md R20). -/
theorem regName_reads (g : Reg) :
    isWord (regName g).toList ∧ regOperand (regName g).toList = some (regIndex g) := by
  cases g <;> decide

/-- The index of the register at an index (10_state.md R20). -/
theorem regIndex_regAt (r : RegIndex) : regIndex (regAt r) = r := by
  revert r
  decide

/-- The line of an operation reads back as the operation (R92). -/
theorem parseLine_printInstr (i : Instr) : parseLine (printInstr i) = .pseudo (.op i) := by
  cases i with
  | tick l =>
    obtain ⟨hword, hread⟩ := bitText_reads l
    calc parseLine (printInstr (.tick l)) = parseOne "TICK".toList (bitText l) :=
          parseLine_operand (m := "TICK".toList) (by decide) hword
      _ = .pseudo (.op (.tick l)) := by simp [parseOne, hread, lineOf]
  | edge =>
    calc parseLine (printInstr .edge) = parseZero "EDGE".toList := parseLine_mnemonic (by decide)
      _ = .pseudo (.op .edge) := rfl
  | fg b =>
    obtain ⟨hword, hread⟩ := bitText_reads b
    calc parseLine (printInstr (.fg b)) = parseOne "FG".toList (bitText b) :=
          parseLine_operand (m := "FG".toList) (by decide) hword
      _ = .pseudo (.op (.fg b)) := by simp [parseOne, hread, lineOf]
  | obs r =>
    obtain ⟨hword, hread⟩ := regName_reads (regAt r)
    calc parseLine (printInstr (.obs r)) = parseOne "OBS".toList (regName (regAt r)).toList :=
          parseLine_operand (m := "OBS".toList) (by decide) hword
      _ = .pseudo (.op (.obs r)) := by simp [parseOne, hread, lineOf, regIndex_regAt]
  | reset =>
    calc parseLine (printInstr .reset) = parseZero "RESET".toList := parseLine_mnemonic (by decide)
      _ = .pseudo (.op .reset) := rfl

end Sys2Proof.Machine

namespace Sys2Proof.Proofs

open Sys2Proof.Machine

/-- Settles O1: each encoded word has the fields of its operation's arm of the decoder. -/
theorem decodeReadsEncodedOperation : Obligations.DecodeReadsEncodedOperation := decode_encode

/-- Settles O2: the fields that select an arm of the decoder determine the whole word. -/
theorem decodedWordIsItsEncoding : Obligations.DecodedWordIsItsEncoding :=
  fun _ _ h => encode_of_decode_ok h

/-- Settles O5: the printed line splits into the mnemonic and the operand, and each reads back. -/
theorem assemblerReadsPrintedOperation : Obligations.AssemblerReadsPrintedOperation :=
  parseLine_printInstr

/-- Settles O3: the words that decode to an operation are the words that encode it. -/
theorem validWordsAreTheOpcodeMap : Obligations.ValidWordsAreTheOpcodeMap := by
  refine ⟨fun w => ?_, fun w => ?_, fun w => ?_, fun w => ?_, fun w => ?_, validWords_length⟩
  · simp only [decode_eq_ok_iff, exists_bit_iff, eq_comm (b := w)]
    exact .rfl
  · rw [decode_eq_ok_iff, eq_comm]
    exact .rfl
  · simp only [decode_eq_ok_iff, exists_bit_iff, eq_comm (b := w)]
    exact .rfl
  · simp only [decode_eq_ok_iff, exists_encode_obs_iff]
  · rw [decode_eq_ok_iff, eq_comm]
    exact .rfl

/-- Settles O4: each of the words is the encoding of what it decodes to. -/
theorem sampleWordsDecode : Obligations.SampleWordsDecode :=
  ⟨decode_encode (.tick 1#1), decode_encode .edge, decode_encode (.fg 0#1),
    decode_encode (.obs 9#4), decode_encode .reset⟩

/-- Settles O6: the fetch takes the first word and decodes it, and the step runs what was decoded. -/
theorem stepRunsDecodedOperation : Obligations.StepRunsDecodedOperation :=
  fun _ _ _ _ hp hd => step_of_decode_ok hp hd

/-- Settles O9: no operation answers `ReservedEncoding`, so such a refusal is the decoder's report. -/
theorem reservedWordIsRefused : Obligations.ReservedWordIsRefused := by
  intro s w rest hp
  refine ⟨(step_reservedEncoding_iff hp).trans (decode_eq_error_iff w), fun hstep => ?_⟩
  rw [advance_of_refused hstep, afterRefusal_block]

end Sys2Proof.Proofs

/-! SUPPORT. Proofs about the PWM generator (40_pwm.md): what a list of operations leaves in the
registers of a running block, the counter modulo `MAX_STEP` (R102), the output as a function of the
counter (R104) and its HIGH time in a period (R103). -/

namespace Sys2Proof.Machine

/-! ### The registers after an operation and after a list of operations -/

/-- What an operation that answers next leaves in the registers of a running block
(44_operations.md R211 to R215). -/
def opRegs (cfg : Config) (r : Regs) : Instr → Regs
  | .tick l => tickRegs cfg l r
  | .edge => rfEdge cfg r
  | .fg b => fgRegs cfg b r
  | .obs _ => r
  | .reset => resetRegs cfg

/-- What a list of operations leaves in the registers of a running block. -/
def runRegs (cfg : Config) (r : Regs) (is : List Instr) : Regs := is.foldl (opRegs cfg) r

@[simp] theorem runRegs_nil (cfg : Config) (r : Regs) : runRegs cfg r [] = r := rfl

@[simp] theorem runRegs_cons (cfg : Config) (r : Regs) (i : Instr) (is : List Instr) :
    runRegs cfg r (i :: is) = runRegs cfg (opRegs cfg r i) is := rfl

theorem runRegs_append (cfg : Config) (r : Regs) (is js : List Instr) :
    runRegs cfg r (is ++ js) = runRegs cfg (runRegs cfg r is) js :=
  List.foldl_append

theorem exec_tick_running {s : State} {r : Regs} (l : Bit) (hr : s.block = .running r) :
    exec (.tick l) s = .next { s with block := .running (tickRegs s.cfg l r) } :=
  onRunning_running hr

/-- RESET under a well-formed configuration answers next (44_operations.md R215). -/
theorem exec_reset_next {s : State} (w : s.cfg.WellFormed) :
    exec .reset s = .next { s with block := .running (resetRegs s.cfg) } := by
  simp [exec, execReset, (failingCondition_eq_none_iff s.cfg).mpr w, State.withRegs]

/-- Every operation on a running block with a well-formed configuration answers next, and changes
only the registers and the values returned. -/
theorem exec_running {s : State} {r : Regs} (hr : s.block = .running r) (w : s.cfg.WellFormed)
    (i : Instr) :
    ∃ log, exec i s = .next { s with block := .running (opRegs s.cfg r i), obsLog := log } := by
  cases i with
  | tick l => exact ⟨s.obsLog, exec_tick_running l hr⟩
  | edge => exact ⟨s.obsLog, onRunning_running hr⟩
  | fg b => exact ⟨s.obsLog, onRunning_running hr⟩
  | obs x =>
    have he : exec (.obs x) s = .next (s.logObs (readReg r (regAt x))) := onRunning_running hr
    exact ⟨_, by rw [he, State.logObs, opRegs, ← hr]⟩
  | reset => exact ⟨s.obsLog, exec_reset_next w⟩

/-- Every list of operations on a running block with a well-formed configuration runs to its end,
and changes only the registers and the values returned. -/
theorem execAll_running (is : List Instr) {s : State} {r : Regs} (hr : s.block = .running r)
    (w : s.cfg.WellFormed) :
    ∃ log,
      execAll is s = .next { s with block := .running (runRegs s.cfg r is), obsLog := log } := by
  induction is generalizing s r with
  | nil => exact ⟨s.obsLog, by rw [execAll, runRegs_nil, ← hr]⟩
  | cons i is ih =>
    obtain ⟨log, he⟩ := exec_running hr w i
    obtain ⟨log', hrest⟩ :=
      ih (s := { s with block := .running (opRegs s.cfg r i), obsLog := log }) rfl w
    exact ⟨log', by simpa only [execAll, he, runRegs_cons] using hrest⟩

/-! ### The PWM registers after an operation -/

section
variable {c : Config} {r : Regs}

/-- TICK writes the PWM registers by PWM_STEP alone (44_operations.md R217). -/
@[simp] theorem tickRegs_pwmCnt (c : Config) (l : Bit) (r : Regs) :
    (tickRegs c l r).pwmCnt = (pwmStep c r).pwmCnt := by
  simp [tickRegs]

@[simp] theorem tickRegs_pwmOut (c : Config) (l : Bit) (r : Regs) :
    (tickRegs c l r).pwmOut = (pwmStep c r).pwmOut := by
  simp [tickRegs]

@[simp] theorem fgRegs_pwmCnt (c : Config) (b : Bit) (r : Regs) :
    (fgRegs c b r).pwmCnt = r.pwmCnt :=
  (fgRegs_frame c b r).1

/-- Inside the period PWM_STEP counts modulo `MAX_STEP` (40_pwm.md R102). -/
theorem pwmStep_pwmCnt_mod (w : c.WellFormed) (h : r.pwmCnt.toNat < c.maxStep) :
    (pwmStep c r).pwmCnt.toNat = (r.pwmCnt.toNat + 1) % c.maxStep := by
  by_cases hwrap : c.maxStep ≤ r.pwmCnt.toNat + 1
  · have hperiod : r.pwmCnt.toNat + 1 = c.maxStep := by omega
    simp [(pwmStep_wrap hwrap).1, hperiod]
  · rw [(pwmStep_count w.maxStep_le (by omega)).1, Nat.mod_eq_of_lt (by omega)]

/-- PWM_STEP leaves the output HIGH exactly when the counter it leaves is not 0 and at most the duty
cycle (40_pwm.md R104). -/
theorem pwmStep_pwmOut_iff (w : c.WellFormed) :
    (pwmStep c r).pwmOut = 1#1 ↔
      (pwmStep c r).pwmCnt ≠ 0#16 ∧ (pwmStep c r).pwmCnt.toNat ≤ r.dcCur.toNat := by
  by_cases hwrap : c.maxStep ≤ r.pwmCnt.toNat + 1
  · simp [pwmStep_wrap hwrap]
  · obtain ⟨hcnt, hout⟩ := pwmStep_count (r := r) w.maxStep_le (by omega)
    have hne : (pwmStep c r).pwmCnt ≠ 0#16 := fun h0 => by simp [h0] at hcnt
    simp [hout, hcnt, hne]

end

end Sys2Proof.Machine

namespace Sys2Proof.Safety

open Sys2Proof.Machine

/-! ### The PWM registers after a list of operations -/

section
variable {c : Config} {r : Regs}

/-- An operation other than RESET moves the counter by the TICKs in it: one step of R102. -/
theorem opRegs_pwmCnt_mod (w : c.WellFormed) (h : r.pwmCnt.toNat < c.maxStep) {i : Instr}
    (hi : i ≠ .reset) :
    (opRegs c r i).pwmCnt.toNat = (r.pwmCnt.toNat + tickCount [i]) % c.maxStep := by
  cases i with
  | tick l => simpa [opRegs, tickCount] using pwmStep_pwmCnt_mod w h
  | edge => simp [opRegs, tickCount, Nat.mod_eq_of_lt h]
  | fg b => simp [opRegs, tickCount, Nat.mod_eq_of_lt h]
  | obs x => simp [opRegs, tickCount, Nat.mod_eq_of_lt h]
  | reset => exact absurd rfl hi

theorem tickCount_cons (i : Instr) (is : List Instr) :
    tickCount (i :: is) = tickCount [i] + tickCount is := by
  cases i <;> simp [tickCount, Nat.add_comm]

@[simp] theorem tickCount_ticks (ls : List Bit) : tickCount (ls.map .tick) = ls.length := by
  induction ls with
  | nil => rfl
  | cons l ls ih => simp [tickCount, ih]

/-- Without RESET the counter counts the TICKs modulo `MAX_STEP` (40_pwm.md R102). -/
theorem runRegs_pwmCnt_mod (w : c.WellFormed) {is : List Instr} (hreset : .reset ∉ is)
    (h : r.pwmCnt.toNat < c.maxStep) :
    (runRegs c r is).pwmCnt.toNat = (r.pwmCnt.toNat + tickCount is) % c.maxStep := by
  induction is generalizing r with
  | nil => simp [tickCount, Nat.mod_eq_of_lt h]
  | cons i is ih =>
    obtain ⟨hi, his⟩ := List.ne_and_not_mem_of_not_mem_cons hreset
    have hstep := opRegs_pwmCnt_mod w h hi.symm
    have hlt : (opRegs c r i).pwmCnt.toNat < c.maxStep := hstep ▸ Nat.mod_lt _ w.maxStep_pos
    calc (runRegs c r (i :: is)).pwmCnt.toNat
        = ((opRegs c r i).pwmCnt.toNat + tickCount is) % c.maxStep := ih his hlt
      _ = (r.pwmCnt.toNat + tickCount (i :: is)) % c.maxStep := by
        rw [hstep, Nat.mod_add_mod, Nat.add_assoc, ← tickCount_cons]

/-- TICKs hold the duty cycle (10_state.md R45). -/
theorem runRegs_ticks_dcCur (c : Config) (r : Regs) (ls : List Bit) :
    (runRegs c r (ls.map .tick)).dcCur = r.dcCur := by
  induction ls generalizing r with
  | nil => rfl
  | cons l ls ih => exact (ih _).trans (tickRegs_frame c l r).1

/-- After one TICK or more the output is the comparison that the last of them made (40_pwm.md R104),
with the duty cycle that they all read. -/
theorem runRegs_ticks_pwmOut_iff (w : c.WellFormed) {ls : List Bit} (hne : ls ≠ []) :
    (runRegs c r (ls.map .tick)).pwmOut = 1#1 ↔
      (runRegs c r (ls.map .tick)).pwmCnt ≠ 0#16 ∧
        (runRegs c r (ls.map .tick)).pwmCnt.toNat ≤ r.dcCur.toNat := by
  obtain ⟨front, last, rfl⟩ := (List.eq_nil_or_concat' ls).resolve_left hne
  have hlast := pwmStep_pwmOut_iff (r := runRegs c r (front.map .tick)) w
  rw [runRegs_ticks_dcCur] at hlast
  simpa [runRegs_append, opRegs] using hlast

end

end Sys2Proof.Safety

namespace Sys2Proof.Proofs

open Sys2Proof.Machine Sys2Proof.Safety

/-- Settles O21: the list runs to its end, and its operations count the TICKs, by induction on the
list. -/
theorem pwmCounterCountsTicksModuloMaxStep : Obligations.PwmCounterCountsTicksModuloMaxStep := by
  intro is s r hr w hlt hreset
  obtain ⟨log, he⟩ := execAll_running is hr w
  exact ⟨_, _, he, rfl, runRegs_pwmCnt_mod w hreset hlt⟩

/-- Settles O22: after the `n`-th TICK the counter is `n` modulo `MAX_STEP`, so it is 0 at the end
of the period and `n` before, and the output is its comparison with the duty cycle. -/
theorem pwmHighTimeOfAPeriod : Obligations.PwmHighTimeOfAPeriod := by
  intro ls s r hr w hzero hpos hle
  obtain ⟨log, he⟩ := execAll_running (ls.map .tick) hr w
  refine ⟨_, _, he, rfl, ?_⟩
  have hstart : r.pwmCnt.toNat = 0 := by simp [hzero]
  have hcnt : (runRegs s.cfg r (ls.map .tick)).pwmCnt.toNat = ls.length % s.cfg.maxStep := by
    have hmod := runRegs_pwmCnt_mod w (r := r) (is := ls.map .tick) (by simp)
      (hstart ▸ w.maxStep_pos)
    simpa [hstart] using hmod
  rw [runRegs_ticks_pwmOut_iff w (List.ne_nil_of_length_pos hpos), ne_eq, BitVec.toNat_eq, hcnt,
    BitVec.toNat_ofNat, Nat.zero_mod]
  rcases hle.eq_or_lt with hend | hbefore
  · have hwrap : ls.length % s.cfg.maxStep = 0 := by rw [hend, Nat.mod_self]
    omega
  · have hcount : ls.length % s.cfg.maxStep = ls.length := Nat.mod_eq_of_lt hbefore
    omega

/-- Settles O19: the other steps of a TICK leave the PWM registers as PWM_STEP writes them. -/
theorem tickStepsPwm : Obligations.TickStepsPwm := by
  intro s r l hr w
  refine ⟨_, exec_tick_running l hr, ?_⟩
  rw [tickRegs_pwmCnt, tickRegs_pwmOut]
  split
  · next hwrap => exact pwmStep_wrap hwrap
  · next hcount => exact pwmStep_count w.maxStep_le (by omega)

/-- Settles O20: PWM_STEP writes the output as the comparison of R104 with the counter it leaves. -/
theorem pwmOutputFollowsCounter : Obligations.PwmOutputFollowsCounter := by
  intro s r l hr w
  refine ⟨_, exec_tick_running l hr, ?_⟩
  rw [tickRegs_pwmCnt, tickRegs_pwmOut]
  exact ⟨pwmStep_pwmOut_iff w, pwmStep_pwmCnt_lt w r⟩

end Sys2Proof.Proofs

/-! SUPPORT. Proofs about the ramp controller (41_positioning.md): its transitions R123 to R128, the
slew of the duty cycle R134, what it reads R130, the qualifier held in a motion R135, and a motion
under the STEP schedule R133. -/

namespace Sys2Proof.Machine

/-! ### The ramp codes by direction -/

/-- The Moving code of a direction (10_state.md R39). -/
def movingCode : Bool → Code
  | true => 1#3
  | false => 2#3

/-- The Waiting code of a direction (10_state.md R39). -/
def waitingCode : Bool → Code
  | true => 3#3
  | false => 4#3

/-- The duty cycle one unit on in a direction, within its bounds (41_positioning.md R124, R125). -/
def unitMove (cfg : Config) : Bool → Word → Word
  | true, v => incTo v cfg.maxStep
  | false, v => dec0 v

theorem directionCode_eq_movingCode (t c : Nat) :
    directionCode t c = movingCode (decide (c < t)) := by
  by_cases h : c < t <;> simp [directionCode, movingCode, h]

theorem movingCode_ne_atRest (up : Bool) : movingCode up ≠ 0#3 := by cases up <;> decide

theorem waitingCode_ne_atRest (up : Bool) : waitingCode up ≠ 0#3 := by cases up <;> decide

theorem exists_movingCode_iff (s : Code) : (∃ up, s = movingCode up) ↔ s = 1#3 ∨ s = 2#3 := by
  simp [Bool.exists_bool, movingCode, or_comm]

/-- A value of `POS_STATE` is AtRest, Moving or Waiting in a direction, or unrecognized
(10_state.md R39, R42). -/
theorem posCode_cases (s : Code) :
    s = 0#3 ∨ (∃ up, s = movingCode up) ∨ (∃ up, s = waitingCode up) ∨ 5 ≤ s.toNat := by
  revert s
  decide

/-- A unit move in exact integers (00_scope.md R12). -/
theorem unitMove_toNat {cfg : Config} (w : cfg.WellFormed) (up : Bool) (v : Word) :
    (unitMove cfg up v).toNat =
      if up then (if cfg.maxStep ≤ v.toNat then cfg.maxStep else v.toNat + 1) else v.toNat - 1 := by
  cases up with
  | true => exact incTo_toNat v cfg.maxStep w.maxStep_le
  | false => exact dec0_toNat v

/-- From within `MAX_STEP` a unit move is by one at most: the clamps cannot make it more
(41_positioning.md R134). -/
theorem unitMove_slew {cfg : Config} (w : cfg.WellFormed) (up : Bool) {v : Word}
    (h : v.toNat ≤ cfg.maxStep) :
    (unitMove cfg up v).toNat ≤ v.toNat + 1 ∧ v.toNat ≤ (unitMove cfg up v).toNat + 1 := by
  rw [unitMove_toNat w]
  cases up with
  | true => rw [if_pos rfl]; split <;> omega
  | false => rw [if_neg Bool.false_ne_true]; omega

/-- A move up from below `MAX_STEP` is not clamped. -/
theorem unitMove_toNat_of_lt {cfg : Config} (w : cfg.WellFormed) {up : Bool} {v : Word}
    (h : up = true → v.toNat < cfg.maxStep) :
    (unitMove cfg up v).toNat = if up then v.toNat + 1 else v.toNat - 1 := by
  rw [unitMove_toNat w]
  split
  · next hup => rw [if_neg (Nat.not_le.mpr (h hup))]
  · rfl

/-! ### SelectTarget -/

/-- The last two branches of R121's list give the same target (41_positioning.md R136). -/
theorem selectTarget_eq (cfg : Config) (c : Nat) :
    selectTarget cfg c =
      if c = cfg.posStart then cfg.posEnd
      else if c < cfg.posStart then cfg.posStart
      else if c = cfg.posEnd then cfg.posStart
      else cfg.posEnd := by
  simp [selectTarget]

theorem selectTarget_le {cfg : Config} (w : cfg.WellFormed) (c : Nat) :
    selectTarget cfg c ≤ cfg.maxStep := by
  rcases selectTarget_endpoint cfg c with h | h
  · exact h ▸ w.posStart_le
  · exact h ▸ w.posEnd_le

theorem loadCfg_selectTarget_toNat {cfg : Config} (w : cfg.WellFormed) (c : Nat) :
    (loadCfg (selectTarget cfg c)).toNat = selectTarget cfg c :=
  loadCfg_toNat _ ((selectTarget_le w c).trans w.maxStep_le)

/-! ### POS_STEP by direction -/

section
variable {cfg : Config} {r : Regs} {up : Bool}

/-- Moving, either way (41_positioning.md R124, R125). -/
theorem posStep_moving (b : Bit) (h : r.posState = movingCode up) :
    posStep cfg b r =
      if r.dcCur = r.dcTgt then completeMotion r
      else { r with
        dcCur := unitMove cfg up r.dcCur
        posDelay := loadCfg cfg.speed
        posState := waitingCode up } := by
  cases up with
  | true => exact posStep_movingUp h
  | false => exact posStep_movingDown h

/-- Waiting, either way (41_positioning.md R126, R127). -/
theorem posStep_waiting (b : Bit) (h : r.posState = waitingCode up) :
    posStep cfg b r =
      if r.posDelay = 0#16 then { r with posState := movingCode up } else r := by
  cases up with
  | true => exact posStep_waitingUp h
  | false => exact posStep_waitingDown h

theorem posStep_unrecognized (b : Bit) (h : 5 ≤ r.posState.toNat) :
    posStep cfg b r = posRecover r := by
  have hphase : posPhase r.posState = .unrecognized := by
    generalize r.posState = s at h
    revert s
    decide
  simp [posStep, hphase]

/-- The duty cycle moves in the Moving states alone, by a unit (41_positioning.md R134). -/
theorem posStep_dcCur_cases (cfg : Config) (b : Bit) (r : Regs) :
    (posStep cfg b r).dcCur = r.dcCur ∨
      ∃ up, r.posState = movingCode up ∧ (posStep cfg b r).dcCur = unitMove cfg up r.dcCur := by
  rcases posCode_cases r.posState with hs | ⟨up, hs⟩ | ⟨up, hs⟩ | hs
  · refine .inl ?_
    rw [posStep_atRest hs, posAtRest]
    split <;> rfl
  · rw [posStep_moving b hs]
    split
    · exact .inl rfl
    · exact .inr ⟨up, hs, rfl⟩
  · refine .inl ?_
    rw [posStep_waiting b hs]
    split <;> rfl
  · exact .inl (by rw [posStep_unrecognized b hs, posRecover_dcCur])

/-! ### What FG reads outside AtRest -/

/-- Outside AtRest POS_STEP does not read the button (41_positioning.md R130). -/
theorem posStep_button_ignored (b b' : Bit) (h : r.posState ≠ 0#3) :
    posStep cfg b r = posStep cfg b' r := by
  rcases posCode_cases r.posState with hs | ⟨up, hs⟩ | ⟨up, hs⟩ | hs
  · exact absurd hs h
  · rw [posStep_moving b hs, posStep_moving b' hs]
  · rw [posStep_waiting b hs, posStep_waiting b' hs]
  · rw [posStep_unrecognized b hs, posStep_unrecognized b' hs]

/-- Outside AtRest POS_STEP does not read `CMD` (41_positioning.md R130). -/
theorem posStep_with_cmd (b c : Bit) (h : r.posState ≠ 0#3) :
    ∃ c', posStep cfg b { r with cmd := c } = { posStep cfg b r with cmd := c' } := by
  rcases posCode_cases r.posState with hs | ⟨up, hs⟩ | ⟨up, hs⟩ | hs
  · exact absurd hs h
  · rw [posStep_moving (r := { r with cmd := c }) b hs, posStep_moving b hs]
    dsimp only
    split <;> exact ⟨_, rfl⟩
  · rw [posStep_waiting (r := { r with cmd := c }) b hs, posStep_waiting b hs]
    dsimp only
    split <;> exact ⟨_, rfl⟩
  · rw [posStep_unrecognized (r := { r with cmd := c }) b hs, posStep_unrecognized b hs]
    exact ⟨_, rfl⟩

/-- CC_STEP does not read `CMD` (43_command_confirmation.md R181 to R185). -/
theorem ccStep_with_cmd (cfg : Config) (r : Regs) (c : Bit) :
    ∃ c', ccStep cfg { r with cmd := c } = { ccStep cfg r with cmd := c' } := by
  unfold ccStep
  dsimp only
  split
  · unfold ccIdle
    split <;> exact ⟨_, rfl⟩
  · unfold ccValidating
    split
    · exact ⟨_, rfl⟩
    · split <;> exact ⟨_, rfl⟩
  · unfold ccWaitingForEnd
    split
    · exact ⟨_, rfl⟩
    · split <;> exact ⟨_, rfl⟩
  · unfold ccIgnoring
    split <;> exact ⟨_, rfl⟩
  · exact ⟨_, rfl⟩

/-- Outside AtRest FG does not read `CMD` (41_positioning.md R130). -/
theorem fgRegs_with_cmd (b c : Bit) (h : r.posState ≠ 0#3) :
    ∃ c', fgRegs cfg b { r with cmd := c } = { fgRegs cfg b r with cmd := c' } := by
  obtain ⟨c₁, hcc⟩ := ccStep_with_cmd cfg r c
  rw [fgRegs, hcc]
  exact posStep_with_cmd b c₁ (by simpa using h)

/-! ### FG, one equation per branch of the ramp controller -/

theorem fgRegs_atRest_trigger {b : Bit} (h : r.posState = 0#3)
    (htrig : b = 1#1 ∨ (ccStep cfg r).cmd = 1#1) :
    fgRegs cfg b r =
      { ccStep cfg r with
        dcTgt := loadCfg (selectTarget cfg r.dcCur.toNat)
        posState := directionCode (selectTarget cfg r.dcCur.toNat) r.dcCur.toNat } := by
  rw [fgRegs, posStep_atRest (by simpa using h), posAtRest, if_pos (by simpa [isHigh] using htrig)]
  simp only [ccStep_dcCur]

theorem fgRegs_atRest_idle {b : Bit} (h : r.posState = 0#3)
    (hidle : ¬ (b = 1#1 ∨ (ccStep cfg r).cmd = 1#1)) : fgRegs cfg b r = ccStep cfg r := by
  rw [fgRegs, posStep_atRest (by simpa using h), posAtRest, if_neg (by simpa [isHigh] using hidle)]

theorem fgRegs_moving_arrived (b : Bit) (h : r.posState = movingCode up) (heq : r.dcCur = r.dcTgt) :
    fgRegs cfg b r = completeMotion (ccStep cfg r) := by
  rw [fgRegs, posStep_moving b (by simpa using h), if_pos (by simpa using heq)]

theorem fgRegs_moving_unit (b : Bit) (h : r.posState = movingCode up) (hne : r.dcCur ≠ r.dcTgt) :
    fgRegs cfg b r =
      { ccStep cfg r with
        dcCur := unitMove cfg up r.dcCur
        posDelay := loadCfg cfg.speed
        posState := waitingCode up } := by
  rw [fgRegs, posStep_moving b (by simpa using h), if_neg (by simpa using hne), ccStep_dcCur]

theorem fgRegs_waiting_over (b : Bit) (h : r.posState = waitingCode up)
    (hzero : r.posDelay = 0#16) :
    fgRegs cfg b r = { ccStep cfg r with posState := movingCode up } := by
  rw [fgRegs, posStep_waiting b (by simpa using h), if_pos (by simpa using hzero)]

theorem fgRegs_waiting_on (b : Bit) (h : r.posState = waitingCode up) (hne : r.posDelay ≠ 0#16) :
    fgRegs cfg b r = ccStep cfg r := by
  rw [fgRegs, posStep_waiting b (by simpa using h), if_neg (by simpa using hne)]

theorem fgRegs_unrecognized (b : Bit) (h : 5 ≤ r.posState.toNat) :
    fgRegs cfg b r = posRecover (ccStep cfg r) := by
  rw [fgRegs, posStep_unrecognized b (by simpa using h)]

end

/-! ### TICK and the ramp controller -/

section
variable (cfg : Config) (l : Bit) (r : Regs)

@[simp] theorem tickRegs_dcCur : (tickRegs cfg l r).dcCur = r.dcCur := by simp [tickRegs]

@[simp] theorem tickRegs_dcTgt : (tickRegs cfg l r).dcTgt = r.dcTgt := by simp [tickRegs]

@[simp] theorem tickRegs_posState : (tickRegs cfg l r).posState = r.posState := by simp [tickRegs]

/-- The step delay counts every TICK (60_exceptions.md R239). -/
@[simp] theorem tickRegs_posDelay : (tickRegs cfg l r).posDelay = dec0 r.posDelay := by
  simp [tickRegs]

end

/-- Outside AtRest a TICK has no RF_STEP (41_positioning.md R135). -/
theorem tickRegs_not_atRest {cfg : Config} {r : Regs} (l : Bit) (h : r.posState ≠ 0#3) :
    tickRegs cfg l r = countdownStep cfg (pwmStep cfg r) := by
  rw [tickRegs, gatedRfStep, if_neg (by simpa using h)]

/-! ### Operations and STEPs on a running block -/

theorem exec_fg_running {s : State} {r : Regs} (b : Bit) (hr : s.block = .running r) :
    exec (.fg b) s = .next { s with block := .running (fgRegs s.cfg b r) } :=
  onRunning_running hr

/-- An operation that answers next from a running block with a well-formed configuration leaves the
registers of `opRegs`. -/
theorem exec_next_opRegs {i : Instr} {s t : State} {r r' : Regs} (hr : s.block = .running r)
    (w : s.cfg.WellFormed) (he : exec i s = .next t) (ht : t.block = .running r') :
    r' = opRegs s.cfg r i := by
  obtain ⟨log, hrun⟩ := exec_running hr w i
  cases he.symm.trans hrun
  exact (Block.running.inj ht).symm

/-- Of the operations but RESET, FG alone moves the duty cycle, in the Moving states and by a unit
(41_positioning.md R134). -/
theorem opRegs_dcCur_cases {cfg : Config} {r : Regs} {i : Instr} (hi : i ≠ .reset) :
    (opRegs cfg r i).dcCur = r.dcCur ∨
      (∃ b, i = .fg b) ∧
        ∃ up, r.posState = movingCode up ∧ (opRegs cfg r i).dcCur = unitMove cfg up r.dcCur := by
  cases i with
  | tick l => exact .inl (tickRegs_dcCur cfg l r)
  | edge => exact .inl (rfEdge_dcCur cfg r)
  | fg b =>
    have hstep := posStep_dcCur_cases cfg b (ccStep cfg r)
    rw [ccStep_posState, ccStep_dcCur] at hstep
    exact hstep.imp_right fun hmoved => ⟨⟨b, rfl⟩, hmoved⟩
  | obs x => exact .inl rfl
  | reset => exact absurd rfl hi

theorem runRegs_step (cfg : Config) (r : Regs) (l b : Bit) :
    runRegs cfg r (expand (.step l b)) = fgRegs cfg b (tickRegs cfg l r) := rfl

/-- `n + 1` STEPs are `n` STEPs and one more (30_encoding.md R93). -/
theorem runRegs_steps_succ (cfg : Config) (r : Regs) (n : Nat) (l : Bit) :
    runRegs cfg r (expand (.steps (n + 1) l)) =
      runRegs cfg (runRegs cfg r (expand (.steps n l))) (expand (.step l 0#1)) := by
  simp only [expand, List.replicate_succ', List.flatten_concat, runRegs_append]

end Sys2Proof.Machine

namespace Sys2Proof.Safety

open Sys2Proof.Machine

/-! ### A motion under the STEP schedule -/

/-- The registers in the course of a motion from `d` to `g`: `u` units are done, and `w` more STEPs
bring the next Moving state (41_positioning.md R133). -/
structure InMotion (c : Config) (d g u w : Nat) (r : Regs) : Prop where
  dcTgt : r.dcTgt.toNat = g
  between : min d g ≤ r.dcCur.toNat ∧ r.dcCur.toNat ≤ max d g
  moved : (r.dcCur.toNat - d) + (d - r.dcCur.toNat) = u
  wait_le : w ≤ c.speed
  posState :
    r.posState = if w = 0 then movingCode (decide (d < g)) else waitingCode (decide (d < g))
  posDelay : w ≠ 0 → r.posDelay.toNat = w

section
variable {c : Config} {d g u w : Nat} {r : Regs}

theorem InMotion.posState_ne_atRest (h : InMotion c d g u w r) : r.posState ≠ 0#3 := by
  rw [h.posState]
  split
  · exact movingCode_ne_atRest _
  · exact waitingCode_ne_atRest _

/-- The motion is at its target exactly when it has done all its units. -/
theorem InMotion.at_target_iff (h : InMotion c d g u w r) :
    r.dcCur = r.dcTgt ↔ u = (g - d) + (d - g) := by
  have htgt := h.dcTgt
  have hbetween := h.between
  have hmoved := h.moved
  rw [BitVec.toNat_eq]
  omega

theorem InMotion.units_le (h : InMotion c d g u w r) : u ≤ (g - d) + (d - g) := by
  have hbetween := h.between
  have hmoved := h.moved
  omega

/-- The FG that triggers the motion leaves it with no unit done, in the Moving state (R123). -/
theorem fgRegs_starts_motion (wf : c.WellFormed) (hrest : r.posState = 0#3) :
    InMotion c r.dcCur.toNat (selectTarget c r.dcCur.toNat) 0 0 (fgRegs c 1#1 r) := by
  rw [fgRegs_atRest_trigger hrest (.inl rfl)]
  refine ⟨loadCfg_selectTarget_toNat wf _, ?_, ?_, Nat.zero_le _, directionCode_eq_movingCode _ _,
    fun h => absurd rfl h⟩
  · rw [ccStep_dcCur]
    omega
  · rw [ccStep_dcCur]
    omega

/-- A STEP in the Moving state does one unit towards the target and arms the delay (R124, R125). -/
theorem InMotion.unit (wf : c.WellFormed) (hg : g ≤ c.maxStep) (l : Bit)
    (h : InMotion c d g u 0 r) (hlt : u < (g - d) + (d - g)) :
    InMotion c d g (u + 1) c.speed (runRegs c r (expand (.step l 0#1))) := by
  have hspeed : c.speed ≠ 0 := Nat.one_le_iff_ne_zero.mp wf.speed_pos
  have hne : r.dcCur ≠ r.dcTgt := fun heq => hlt.ne (h.at_target_iff.mp heq)
  obtain ⟨htgt, hbetween, hmoved, -, hstate, -⟩ := h
  have hunit : (unitMove c (decide (d < g)) r.dcCur).toNat =
      if d < g then r.dcCur.toNat + 1 else r.dcCur.toNat - 1 := by
    simpa using unitMove_toNat_of_lt wf (up := decide (d < g)) (v := r.dcCur) fun hup => by
      have hdir := of_decide_eq_true hup
      omega
  rw [runRegs_step, fgRegs_moving_unit 0#1 (by simpa using hstate) (by simpa using hne)]
  refine ⟨by simpa using htgt, ?_, ?_, le_rfl, (if_neg hspeed).symm,
    fun _ => loadCfg_toNat _ wf.speed_le⟩
  · rw [tickRegs_dcCur, hunit]
    split <;> omega
  · rw [tickRegs_dcCur, hunit]
    split <;> omega

/-- A STEP in the Waiting state counts the delay down (R126, R127). -/
theorem InMotion.wait (l : Bit) (h : InMotion c d g u (w + 1) r) :
    InMotion c d g u w (runRegs c r (expand (.step l 0#1))) := by
  obtain ⟨htgt, hbetween, hmoved, hwait, hstate, hdelay⟩ := h
  have hstate' : (tickRegs c l r).posState = waitingCode (decide (d < g)) := by simpa using hstate
  have hdelay' : (tickRegs c l r).posDelay.toNat = w := by simp [hdelay]
  rw [runRegs_step]
  by_cases hw : w = 0
  · subst hw
    rw [fgRegs_waiting_over 0#1 hstate' (BitVec.eq_of_toNat_eq hdelay')]
    exact ⟨by simpa using htgt, by simpa using hbetween, by simpa using hmoved, Nat.zero_le _,
      rfl, fun h0 => absurd rfl h0⟩
  · have hne : (tickRegs c l r).posDelay ≠ 0#16 := fun h0 => hw <| by
      rw [h0] at hdelay'
      exact hdelay'.symm
    rw [fgRegs_waiting_on 0#1 hstate' hne]
    exact ⟨by simpa using htgt, by simpa using hbetween, by simpa using hmoved, by omega,
      by simpa [hw] using hstate, fun _ => by simpa using hdelay'⟩

/-- A STEP in the Moving state at the target ends the motion there (R124, R125). -/
theorem InMotion.arrive (l : Bit) (h : InMotion c d g ((g - d) + (d - g)) 0 r) :
    (runRegs c r (expand (.step l 0#1))).posState = 0#3 ∧
    (runRegs c r (expand (.step l 0#1))).dcTgt = r.dcTgt ∧
    (runRegs c r (expand (.step l 0#1))).dcCur = r.dcCur := by
  have heq : r.dcCur = r.dcTgt := h.at_target_iff.mpr rfl
  rw [runRegs_step, fgRegs_moving_arrived 0#1 (by simpa using h.posState) (by simpa using heq)]
  simp

/-- Until the last STEP of the schedule the motion goes on, its `u`-th unit lasting until STEP
`u * (SPEED + 1)` (R133). -/
theorem InMotion.steps (wf : c.WellFormed) (hg : g ≤ c.maxStep) (l : Bit)
    (h : InMotion c d g 0 0 r) {n : Nat} (hn : n ≤ ((g - d) + (d - g)) * (c.speed + 1)) :
    ∃ u w, n + w = u * (c.speed + 1) ∧
      InMotion c d g u w (runRegs c r (expand (.steps n l))) := by
  induction n with
  | zero => exact ⟨0, 0, by simp, h⟩
  | succ n ih =>
    obtain ⟨u, w, hcount, hmotion⟩ := ih (by omega)
    rw [runRegs_steps_succ]
    cases w with
    | zero =>
      have hlt : u < (g - d) + (d - g) := Nat.lt_of_mul_lt_mul_right (a := c.speed + 1) (by omega)
      exact ⟨u + 1, c.speed, by rw [Nat.succ_mul]; omega, hmotion.unit wf hg l hlt⟩
    | succ w => exact ⟨u, w, by omega, hmotion.wait l⟩

/-- The units done are the STEPs of the schedule so far, `SPEED + 1` to a unit, rounded up. -/
theorem InMotion.units_eq {n : Nat} (h : InMotion c d g u w r)
    (hcount : n + w = u * (c.speed + 1)) :
    u = (n + c.speed) / (c.speed + 1) := by
  have hwait := h.wait_le
  refine (Nat.div_eq_of_lt_le (by omega) ?_).symm
  rw [Nat.succ_mul]
  omega

/-- The whole schedule takes the motion to its target, with no STEP left to wait. -/
theorem InMotion.steps_all (wf : c.WellFormed) (hg : g ≤ c.maxStep) (l : Bit)
    (h : InMotion c d g 0 0 r) :
    InMotion c d g ((g - d) + (d - g)) 0
      (runRegs c r (expand (.steps (((g - d) + (d - g)) * (c.speed + 1)) l))) := by
  obtain ⟨u, w, hcount, hmotion⟩ := h.steps wf hg l le_rfl
  have hle := Nat.mul_le_mul_right (c.speed + 1) hmotion.units_le
  obtain rfl : w = 0 := by omega
  obtain rfl : u = (g - d) + (d - g) :=
    Nat.eq_of_mul_eq_mul_right (Nat.succ_pos c.speed) hcount.symm
  exact hmotion

end

end Sys2Proof.Safety

namespace Sys2Proof.Proofs

open Sys2Proof.Machine Sys2Proof.Safety

/-- Settles O55: FG 1 starts the motion, each STEP does a unit of it or counts its delay down, and
the STEP after the last unit's delay finds it at its target. -/
theorem motionUnderStepSchedule : Obligations.MotionUnderStepSchedule := by
  intro s r l hr hinv hrest d g k total n hn
  obtain ⟨wf, -⟩ := (stateInv_running hr).mp hinv
  obtain ⟨log, he⟩ := execAll_running (.fg 1#1 :: expand (.steps n l)) hr wf
  refine ⟨_, _, he, rfl, ?_⟩
  rw [runRegs_cons, opRegs]
  have hg : g ≤ s.cfg.maxStep := selectTarget_le wf d
  have hstart : InMotion s.cfg d g 0 0 (fgRegs s.cfg 1#1 r) := fgRegs_starts_motion wf hrest
  rcases Nat.lt_or_eq_of_le hn with hbefore | hend
  · obtain ⟨u, w, hcount, hmotion⟩ := hstart.steps wf hg l (Nat.lt_one_add_iff.mp hbefore)
    have hle : u ≤ k := hmotion.units_le
    rw [hmotion.moved, ← hmotion.units_eq hcount, Nat.min_eq_right hle]
    exact ⟨iff_of_false hmotion.posState_ne_atRest hbefore.ne, hmotion.dcTgt, rfl,
      fun h => absurd h hbefore.ne⟩
  · have hlast := hstart.steps_all wf hg l
    have hn' : n = k * (s.cfg.speed + 1) + 1 := hend.trans (Nat.add_comm _ _)
    have hunits : k ≤ (n + s.cfg.speed) / (s.cfg.speed + 1) :=
      (Nat.le_div_iff_mul_le (Nat.succ_pos _)).mpr <| by
        rw [hn', Nat.succ_eq_add_one]
        omega
    rw [hn', runRegs_steps_succ, ← hn']
    obtain ⟨hstate, htgt, hcur⟩ := hlast.arrive l
    rw [hstate, htgt, hcur, hlast.moved, Nat.min_eq_left hunits]
    exact ⟨iff_of_true rfl hend, hlast.dcTgt, rfl, fun _ => hlast.at_target_iff.mpr rfl⟩

/-- Settles O53: the duty cycle is kept or moved by a unit, in the Moving states. -/
theorem dutyCycleSlewsByOneUnit : Obligations.DutyCycleSlewsByOneUnit := by
  intro i s t r r' hi hr hinv he ht
  obtain ⟨wf, hregs⟩ := (stateInv_running hr).mp hinv
  obtain rfl := exec_next_opRegs hr wf he ht
  rcases opRegs_dcCur_cases (cfg := s.cfg) (r := r) hi with hkept | ⟨hfg, up, hs, hmoved⟩
  · rw [hkept]
    exact ⟨Nat.le_succ _, Nat.le_succ _, fun h => absurd rfl h⟩
  · rw [hmoved]
    obtain ⟨hup, hdown⟩ := unitMove_slew wf up hregs.dcCur_le
    exact ⟨hup, hdown, fun _ => ⟨hfg, (exists_movingCode_iff _).mp ⟨up, hs⟩⟩⟩

/-- Settles O26: outside AtRest a TICK runs PWM_STEP and COUNTDOWN_STEP alone, which leave the
qualifier's registers. -/
theorem tickLeavesQualifierFrozenWhileMoving :
    Obligations.TickLeavesQualifierFrozenWhileMoving := by
  intro s r l hr hmoving
  refine ⟨_, exec_tick_running l hr, ?_⟩
  rw [tickRegs_not_atRest l hmoving]
  simp

/-- Settles O46: POS_STEP reads the button and `CMD` as CC_STEP leaves it. -/
theorem fgAtRest : Obligations.FgAtRest := by
  intro s r b hr wf hrest c t
  have ht : selectTarget s.cfg c = t := selectTarget_eq s.cfg c
  refine ⟨_, exec_fg_running b hr, ?_⟩
  rw [← ccStep_cmd s.cfg r, ← ht]
  split
  · next htrig =>
    rw [fgRegs_atRest_trigger hrest htrig]
    exact ⟨⟨loadCfg_selectTarget_toNat wf c, rfl⟩, ccStep_dcCur _ _, ccStep_posDelay _ _, rfl⟩
  · next hidle =>
    rw [fgRegs_atRest_idle hrest hidle]
    simp [hrest]

/-- Settles O47: MovingUp is the upward case of the two Moving branches. -/
theorem fgInMovingUp : Obligations.FgInMovingUp := by
  intro s r b hr wf hup
  refine ⟨_, exec_fg_running b hr, ?_⟩
  split
  · next heq =>
    rw [fgRegs_moving_arrived (up := true) b hup heq]
    simp
  · next hne =>
    rw [fgRegs_moving_unit (up := true) b hup hne]
    exact ⟨ccStep_dcTgt _ _, unitMove_toNat wf true _, loadCfg_toNat _ wf.speed_le, rfl,
      ccStep_cmd _ _⟩

/-- Settles O48: MovingDown is the downward case, where the clamp at 0 is natural subtraction. -/
theorem fgInMovingDown : Obligations.FgInMovingDown := by
  intro s r b hr wf hdown
  refine ⟨_, exec_fg_running b hr, ?_⟩
  split
  · next heq =>
    rw [fgRegs_moving_arrived (up := false) b hdown heq]
    simp
  · next hne =>
    rw [fgRegs_moving_unit (up := false) b hdown hne]
    have hclamp : r.dcCur.toNat - 1 = if r.dcCur.toNat = 0 then 0 else r.dcCur.toNat - 1 := by
      split <;> omega
    exact ⟨ccStep_dcTgt _ _, (unitMove_toNat wf false _).trans hclamp, loadCfg_toNat _ wf.speed_le,
      rfl, ccStep_cmd _ _⟩

/-- Settles O49: each Waiting code is that of a direction, and goes back to the Moving code of the
same one. -/
theorem fgInWaiting : Obligations.FgInWaiting := by
  intro s r b hr hwaiting
  refine ⟨_, exec_fg_running b hr, ?_⟩
  obtain ⟨up, hs, hmoving⟩ :
      ∃ up, r.posState = waitingCode up ∧
        (if r.posState = 3#3 then 1#3 else 2#3) = movingCode up := by
    rcases hwaiting with hs | hs
    · exact ⟨true, hs, by rw [hs]; rfl⟩
    · exact ⟨false, hs, by rw [hs]; rfl⟩
  rw [hmoving]
  by_cases hzero : r.posDelay = 0#16
  · rw [fgRegs_waiting_over b hs hzero]
    simp [hzero, ccStep_cmd]
  · rw [fgRegs_waiting_on b hs hzero]
    simp [hzero, ccStep_cmd]

/-- Settles O50: CC_STEP leaves the code for POS_STEP to recover from. -/
theorem fgRecoversRampController : Obligations.FgRecoversRampController := by
  intro s r b hr hcode
  refine ⟨_, exec_fg_running b hr, ?_⟩
  rw [fgRegs_unrecognized b hcode]
  simp [ccStep_cmd]

/-- Settles O52: neither of FG's two steps reads `CMD`, and POS_STEP does not read the button. -/
theorem triggersAreIgnoredWhileMoving : Obligations.TriggersAreIgnoredWhileMoving := by
  intro s r hr hmoving
  refine ⟨?_, fun b c => ?_⟩
  · rw [exec_fg_running 1#1 hr, exec_fg_running 0#1 hr, fgRegs,
      posStep_button_ignored 1#1 0#1 (by simpa using hmoving), ← fgRegs]
  · obtain ⟨c', hcmd⟩ := fgRegs_with_cmd (cfg := s.cfg) b c hmoving
    refine ⟨_, _, exec_fg_running b hr, exec_fg_running b rfl, ?_⟩
    rw [hcmd]

end Sys2Proof.Proofs

/-! SUPPORT. Proofs about the RF qualifier (42_rf_qualifier.md): its transitions R151 to R158, the
counting discipline R160, the writes of `RF_DET` R166, and the outcome of a signal under TICKs
alone, R161, R162 and R164. -/

namespace Sys2Proof.Machine

/-! ### RF_STEP, one equation per branch -/

section
variable {c : Config} {r : Regs}

/-- The HIGH sample that reaches the threshold (42_rf_qualifier.md R153). -/
theorem rfStep_high_reached (hs : r.rfState = 1#3) (h : c.countHigh ≤ r.rfCnt.toNat + 1) :
    rfStep c 1#1 r = { r with rfState := 2#3, rfCnt := 0#16 } := by
  simp [rfStep_detectHigh hs, isHigh, detectHighOnHigh, h]

/-- A HIGH sample counted below the threshold (42_rf_qualifier.md R153). -/
theorem rfStep_high_counted (hs : r.rfState = 1#3) (h : ¬ c.countHigh ≤ r.rfCnt.toNat + 1) :
    rfStep c 1#1 r = { r with rfCnt := BitVec.ofNat 16 (r.rfCnt.toNat + 1) } := by
  simp [rfStep_detectHigh hs, isHigh, detectHighOnHigh, h]

/-- A high run that ends within tolerance (42_rf_qualifier.md R154). -/
theorem rfStep_high_tolerated (hs : r.rfState = 1#3)
    (h : c.countHigh ≤ r.rfCnt.toNat + c.countOler) :
    rfStep c 0#1 r = { r with rfState := 2#3, rfCnt := 0#16 } := by
  simp [rfStep_detectHigh hs, isHigh, detectHighOnLow, h]

/-- A high run that ends too early (42_rf_qualifier.md R154). -/
theorem rfStep_high_failed (hs : r.rfState = 1#3)
    (h : ¬ c.countHigh ≤ r.rfCnt.toNat + c.countOler) :
    rfStep c 0#1 r = { r with rfDet := 0#1, rfState := 3#3, rfCnt := 0#16 } := by
  simp [rfStep_detectHigh hs, isHigh, detectHighOnLow, h]

/-- The LOW sample that reaches the threshold (42_rf_qualifier.md R155). -/
theorem rfStep_low_reached (hs : r.rfState = 2#3) (h : c.countLow ≤ r.rfCnt.toNat + 1) :
    rfStep c 0#1 r = { r with rfDet := 1#1, rfState := 3#3, rfCnt := 0#16 } := by
  simp [rfStep_detectLow hs, isHigh, detectLowOnLow, h]

/-- A LOW sample counted below the threshold (42_rf_qualifier.md R155). -/
theorem rfStep_low_counted (hs : r.rfState = 2#3) (h : ¬ c.countLow ≤ r.rfCnt.toNat + 1) :
    rfStep c 0#1 r = { r with rfCnt := BitVec.ofNat 16 (r.rfCnt.toNat + 1) } := by
  simp [rfStep_detectLow hs, isHigh, detectLowOnLow, h]

/-- A HIGH sample ends the low run, within tolerance or not (42_rf_qualifier.md R156). -/
theorem rfStep_low_ended (hs : r.rfState = 2#3) :
    rfStep c 1#1 r = { r with
      rfDet := if c.countLow ≤ r.rfCnt.toNat + c.countOler then 1#1 else 0#1
      rfState := 3#3
      rfCnt := 0#16 } := by
  simp [rfStep_detectLow hs, isHigh, detectLowOnHigh]

/-- An unrecognized code re-arms, whatever the line (42_rf_qualifier.md R158). -/
theorem rfStep_unrecognized (l : Bit) (h : 4 ≤ r.rfState.toNat) : rfStep c l r = rearm c r := by
  have hphase : rfPhase r.rfState = .unrecognized := by
    generalize r.rfState = s at h
    revert s
    decide
  simp [rfStep, hphase]

/-- What REARM leaves in the registers it writes (42_rf_qualifier.md R157). -/
theorem rearm_qualifier (c : Config) (r : Regs) :
    if c.edgePendingMode = .latch ∧ r.edgePend = 1#1 then
      (rearm c r).rfState = 1#3 ∧ (rearm c r).edgeEn = 0#1 ∧ (rearm c r).edgePend = 0#1
    else
      (rearm c r).rfState = 0#3 ∧ (rearm c r).edgeEn = 1#1 ∧ (rearm c r).edgePend = r.edgePend := by
  split
  · next hkept => simp [rearm_latched hkept]
  · next hnone => simp [rearm_armed hnone]

/-- RF_EDGE as a whole (42_rf_qualifier.md R151). -/
theorem rfEdge_eq (c : Config) (r : Regs) :
    rfEdge c r =
      if r.edgeEn = 1#1 then arm r
      else if c.edgePendingMode = .latch then { r with edgePend := 1#1 }
      else r := by
  unfold rfEdge
  cases c.edgePendingMode <;> simp

/-- All RF_STEP can do: nothing, REARM, count a sample, go from DetectHigh to DetectLow, or end the
sequence with a result. -/
theorem rfStep_cases (c : Config) (l : Bit) (r : Regs) :
    rfStep c l r = r ∨
    rfStep c l r = rearm c r ∨
    (∃ n, rfStep c l r = { r with rfCnt := n }) ∨
    rfStep c l r = { r with rfState := 2#3, rfCnt := 0#16 } ∨
    ((r.rfState = 1#3 ∨ r.rfState = 2#3) ∧
      ∃ d, rfStep c l r = { r with rfDet := d, rfState := 3#3, rfCnt := 0#16 }) := by
  have hcode : r.rfState = 0#3 ∨ r.rfState = 1#3 ∨ r.rfState = 2#3 ∨ r.rfState = 3#3 ∨
      4 ≤ r.rfState.toNat := by bv_omega
  rcases hcode with hs | hs | hs | hs | hs
  · exact .inl (rfStep_idle hs)
  · rcases BitVec.eq_zero_or_eq_one l with rfl | rfl
    · by_cases h : c.countHigh ≤ r.rfCnt.toNat + c.countOler
      · exact .inr (.inr (.inr (.inl (rfStep_high_tolerated hs h))))
      · exact .inr (.inr (.inr (.inr ⟨.inl hs, _, rfStep_high_failed hs h⟩)))
    · by_cases h : c.countHigh ≤ r.rfCnt.toNat + 1
      · exact .inr (.inr (.inr (.inl (rfStep_high_reached hs h))))
      · exact .inr (.inr (.inl ⟨_, rfStep_high_counted hs h⟩))
  · rcases BitVec.eq_zero_or_eq_one l with rfl | rfl
    · by_cases h : c.countLow ≤ r.rfCnt.toNat + 1
      · exact .inr (.inr (.inr (.inr ⟨.inr hs, _, rfStep_low_reached hs h⟩)))
      · exact .inr (.inr (.inl ⟨_, rfStep_low_counted hs h⟩))
    · exact .inr (.inr (.inr (.inr ⟨.inr hs, _, rfStep_low_ended hs⟩)))
  · rw [rfStep_detectEnd hs]
    split
    · exact .inr (.inl rfl)
    · exact .inl rfl
  · exact .inr (.inl (rfStep_unrecognized l hs))

/-! ### TICK and the qualifier -/

/-- RF_STEP neither reads nor writes the PWM registers (44_operations.md R217). -/
theorem rfStep_with_pwm (c : Config) (l : Bit) (r : Regs) (n : Word) (o : Bit) :
    rfStep c l { r with pwmCnt := n, pwmOut := o } =
      { rfStep c l r with pwmCnt := n, pwmOut := o } := by
  unfold rfStep
  dsimp only
  split
  · rfl
  · unfold detectHighOnHigh detectHighOnLow
    split <;> dsimp only <;> split <;> rfl
  · unfold detectLowOnHigh detectLowOnLow
    split
    · rfl
    · dsimp only
      split <;> rfl
  · unfold rearm arm
    dsimp only
    split
    · split <;> rfl
    · rfl
  · unfold rearm arm
    dsimp only
    split <;> rfl

/-- PWM_STEP writes the PWM registers alone (40_pwm.md R101). -/
theorem pwmStep_eq_with_pwm (c : Config) (r : Regs) :
    pwmStep c r = { r with pwmCnt := (pwmStep c r).pwmCnt, pwmOut := (pwmStep c r).pwmOut } := by
  unfold pwmStep
  dsimp only
  split <;> rfl

/-- AtRest a TICK writes the qualifier's registers by RF_STEP alone (44_operations.md R211,
R217). -/
theorem tickRegs_qualifier (l : Bit) (hrest : r.posState = 0#3) :
    (tickRegs c l r).rfState = (rfStep c l r).rfState ∧
    (tickRegs c l r).rfCnt = (rfStep c l r).rfCnt ∧
    (tickRegs c l r).rfDet = (rfStep c l r).rfDet ∧
    (tickRegs c l r).edgeEn = (rfStep c l r).edgeEn ∧
    (tickRegs c l r).edgePend = (rfStep c l r).edgePend := by
  have hgate : gatedRfStep c l (pwmStep c r) = rfStep c l (pwmStep c r) :=
    if_pos (by simpa using hrest)
  rw [tickRegs, hgate, pwmStep_eq_with_pwm c r, rfStep_with_pwm]
  simp

/-- The RF part of a TICK, AtRest or not: RF_STEP, or nothing (41_positioning.md R135). -/
theorem tickRegs_qualifier_cases (c : Config) (l : Bit) (r : Regs) :
    ((tickRegs c l r).rfState = (rfStep c l r).rfState ∧
      (tickRegs c l r).rfCnt = (rfStep c l r).rfCnt ∧
      (tickRegs c l r).rfDet = (rfStep c l r).rfDet) ∨
    ((tickRegs c l r).rfState = r.rfState ∧ (tickRegs c l r).rfDet = r.rfDet) := by
  by_cases hrest : r.posState = 0#3
  · obtain ⟨hstate, hcnt, hdet, -, -⟩ := tickRegs_qualifier (c := c) l hrest
    exact .inl ⟨hstate, hcnt, hdet⟩
  · rw [tickRegs_not_atRest l hrest]
    exact .inr (by simp)

end

/-- `RF_DET` changes only when RF_STEP ends a sequence (42_rf_qualifier.md R166). -/
theorem rfStep_rfDet_changed {c : Config} {l : Bit} {r : Regs}
    (h : (rfStep c l r).rfDet ≠ r.rfDet) :
    (r.rfState = 1#3 ∨ r.rfState = 2#3) ∧ (rfStep c l r).rfState = 3#3 := by
  rcases rfStep_cases c l r with he | he | ⟨n, he⟩ | he | ⟨hs, d, he⟩
  · exact absurd (by rw [he]) h
  · exact absurd (by rw [he, rearm_rfDet]) h
  · exact absurd (by rw [he]) h
  · exact absurd (by rw [he]) h
  · exact ⟨hs, by rw [he]⟩

/-- RF_STEP leaves the run counter at 0 when it changes the state (42_rf_qualifier.md R160). -/
theorem rfStep_rfState_changed {c : Config} {l : Bit} {r : Regs}
    (h : (rfStep c l r).rfState ≠ r.rfState) : (rfStep c l r).rfCnt = 0#16 := by
  rcases rfStep_cases c l r with he | he | ⟨n, he⟩ | he | ⟨-, d, he⟩
  · exact absurd (by rw [he]) h
  · rw [he, rearm_rfCnt]
  · exact absurd (by rw [he]) h
  · rw [he]
  · rw [he]

/-- RF_EDGE leaves the run counter at 0 when it changes the state (42_rf_qualifier.md R160). -/
theorem rfEdge_rfState_changed {c : Config} {r : Regs}
    (h : (rfEdge c r).rfState ≠ r.rfState) : (rfEdge c r).rfCnt = 0#16 := by
  rw [rfEdge_eq] at h ⊢
  split
  · rfl
  · next hoff =>
    rw [if_neg hoff] at h
    refine absurd ?_ h
    split <;> rfl

/-! ### The operations and the qualifier -/

/-- An operation that answers next from a running block leaves the registers of `opRegs`, whatever
the configuration: RESET answers next under a well-formed one alone. -/
theorem exec_next_regs {i : Instr} {s t : State} {r r' : Regs} (hr : s.block = .running r)
    (he : exec i s = .next t) (ht : t.block = .running r') : r' = opRegs s.cfg r i := by
  have hfrom {r₀ : Regs} (hr₀ : s.block = .running r₀) : r = r₀ :=
    Block.running.inj (hr.symm.trans hr₀)
  rcases exec_next_cases he with ⟨l, r₀, rfl, hr₀, rfl⟩ | ⟨r₀, rfl, hr₀, rfl⟩ |
    ⟨b, r₀, rfl, hr₀, rfl⟩ | ⟨x, r₀, rfl, -, rfl⟩ | ⟨rfl, -, rfl⟩
  · rw [hfrom hr₀]
    exact (Block.running.inj ht).symm
  · rw [hfrom hr₀]
    exact (Block.running.inj ht).symm
  · rw [hfrom hr₀]
    exact (Block.running.inj ht).symm
  · exact Block.running.inj (ht.symm.trans hr)
  · exact (Block.running.inj ht).symm

/-- Of the operations but RESET, TICK alone changes `RF_DET`, on entry to DetectEnd from a detecting
state (42_rf_qualifier.md R166). -/
theorem opRegs_rfDet_changed {cfg : Config} {r : Regs} {i : Instr} (hi : i ≠ .reset)
    (h : (opRegs cfg r i).rfDet ≠ r.rfDet) :
    (∃ l, i = .tick l) ∧ (r.rfState = 1#3 ∨ r.rfState = 2#3) ∧
      (opRegs cfg r i).rfState = 3#3 := by
  cases i with
  | tick l =>
    rw [opRegs] at h ⊢
    rcases tickRegs_qualifier_cases cfg l r with ⟨hstate, -, hdet⟩ | ⟨-, hdet⟩
    · rw [hdet] at h
      obtain ⟨hs, hend⟩ := rfStep_rfDet_changed h
      exact ⟨⟨l, rfl⟩, hs, hstate.trans hend⟩
    · exact absurd hdet h
  | edge => exact absurd (rfEdge_rfDet cfg r) h
  | fg b =>
    obtain ⟨-, -, -, -, hdet, -⟩ := fgRegs_frame cfg b r
    exact absurd hdet h
  | obs x => exact absurd rfl h
  | reset => exact absurd rfl hi

/-- Every operation that changes `RF_STATE` leaves the run counter at 0 (42_rf_qualifier.md
R160). -/
theorem opRegs_rfState_changed {cfg : Config} {r : Regs} {i : Instr}
    (h : (opRegs cfg r i).rfState ≠ r.rfState) : (opRegs cfg r i).rfCnt = 0#16 := by
  cases i with
  | tick l =>
    rw [opRegs] at h ⊢
    rcases tickRegs_qualifier_cases cfg l r with ⟨hstate, hcnt, -⟩ | ⟨hstate, -⟩
    · rw [hstate] at h
      exact hcnt.trans (rfStep_rfState_changed h)
    · exact absurd hstate h
  | edge => exact rfEdge_rfState_changed h
  | fg b =>
    obtain ⟨-, -, hstate, -⟩ := fgRegs_frame cfg b r
    exact absurd hstate h
  | obs x => exact absurd rfl h
  | reset => rfl

end Sys2Proof.Machine

namespace Sys2Proof.Safety

open Sys2Proof.Machine

/-! ### The qualifier under TICKs alone -/

/-- AtRest, with the qualifier in a state at a run length, and the values of `RF_DET` and
`EDGE_PEND`. -/
structure QualifierAt (code : Code) (count : Nat) (det pend : Bit) (r : Regs) : Prop where
  atRest : r.posState = 0#3
  rfState : r.rfState = code
  rfCnt : r.rfCnt.toNat = count
  rfDet : r.rfDet = det
  edgePend : r.edgePend = pend

section
variable {c : Config} {code code' : Code} {count count' : Nat} {d d' p p' : Bit} {r : Regs}

/-- An EDGE on an armed qualifier starts the high run (42_rf_qualifier.md R151). -/
theorem rfEdge_qualifierAt (hrest : r.posState = 0#3) (hen : r.edgeEn = 1#1) :
    QualifierAt 1#3 0 r.rfDet r.edgePend (rfEdge c r) := by
  rw [rfEdge_eq, if_pos hen]
  exact ⟨hrest, rfl, rfl, rfl, rfl⟩

/-- A TICK brings the qualifier to where RF_STEP brings it. -/
theorem QualifierAt.tick {l : Bit} (h : QualifierAt code count d p r)
    (hstep : QualifierAt code' count' d' p' (rfStep c l r)) :
    QualifierAt code' count' d' p' (tickRegs c l r) := by
  obtain ⟨hstate, hcnt, hdet, -, hpend⟩ := tickRegs_qualifier (c := c) l h.atRest
  exact ⟨(tickRegs_posState c l r).trans h.atRest, hstate.trans hstep.rfState,
    by rw [hcnt, hstep.rfCnt], hdet.trans hstep.rfDet, hpend.trans hstep.edgePend⟩

theorem QualifierAt.highCounted (w : c.WellFormed) (h : QualifierAt 1#3 count d p r)
    (hlt : count + 1 < c.countHigh) : QualifierAt 1#3 (count + 1) d p (tickRegs c 1#1 r) := by
  have hfit := w.countHigh_le
  have hcnt := h.rfCnt
  refine h.tick ?_
  rw [rfStep_high_counted h.rfState (by omega), hcnt]
  exact ⟨h.atRest, h.rfState, ofNat16_toNat (by omega), h.rfDet, h.edgePend⟩

theorem QualifierAt.highReached (h : QualifierAt 1#3 count d p r)
    (hle : c.countHigh ≤ count + 1) : QualifierAt 2#3 0 d p (tickRegs c 1#1 r) := by
  refine h.tick ?_
  rw [rfStep_high_reached h.rfState (by rwa [h.rfCnt])]
  exact ⟨h.atRest, rfl, rfl, h.rfDet, h.edgePend⟩

theorem QualifierAt.highTolerated (h : QualifierAt 1#3 count d p r)
    (hle : c.countHigh ≤ count + c.countOler) : QualifierAt 2#3 0 d p (tickRegs c 0#1 r) := by
  refine h.tick ?_
  rw [rfStep_high_tolerated h.rfState (by rwa [h.rfCnt])]
  exact ⟨h.atRest, rfl, rfl, h.rfDet, h.edgePend⟩

theorem QualifierAt.highFailed (h : QualifierAt 1#3 count d p r)
    (hlt : ¬ c.countHigh ≤ count + c.countOler) :
    QualifierAt 3#3 0 0#1 p (tickRegs c 0#1 r) := by
  refine h.tick ?_
  rw [rfStep_high_failed h.rfState (by rwa [h.rfCnt])]
  exact ⟨h.atRest, rfl, rfl, rfl, h.edgePend⟩

theorem QualifierAt.lowCounted (w : c.WellFormed) (h : QualifierAt 2#3 count d p r)
    (hlt : count + 1 < c.countLow) : QualifierAt 2#3 (count + 1) d p (tickRegs c 0#1 r) := by
  have hfit := w.countLow_le
  have hcnt := h.rfCnt
  refine h.tick ?_
  rw [rfStep_low_counted h.rfState (by omega), hcnt]
  exact ⟨h.atRest, h.rfState, ofNat16_toNat (by omega), h.rfDet, h.edgePend⟩

theorem QualifierAt.lowReached (h : QualifierAt 2#3 count d p r)
    (hle : c.countLow ≤ count + 1) : QualifierAt 3#3 0 1#1 p (tickRegs c 0#1 r) := by
  refine h.tick ?_
  rw [rfStep_low_reached h.rfState (by rwa [h.rfCnt])]
  exact ⟨h.atRest, rfl, rfl, rfl, h.edgePend⟩

theorem QualifierAt.lowEnded (h : QualifierAt 2#3 count d p r) :
    QualifierAt 3#3 0 (if c.countLow ≤ count + c.countOler then 1#1 else 0#1) p
      (tickRegs c 1#1 r) := by
  refine h.tick ?_
  rw [rfStep_low_ended h.rfState, h.rfCnt]
  exact ⟨h.atRest, rfl, rfl, rfl, h.edgePend⟩

/-- With the sequence over and no edge kept, a TICK starts no new one: `RF_DET` is kept
(42_rf_qualifier.md R163). -/
theorem QualifierAt.settled_tick (l : Bit) (hs : code = 0#3 ∨ code = 3#3)
    (h : QualifierAt code 0 d 0#1 r) :
    ∃ code', (code' = 0#3 ∨ code' = 3#3) ∧ QualifierAt code' 0 d 0#1 (tickRegs c l r) := by
  rcases hs with rfl | rfl
  · exact ⟨0#3, .inl rfl, h.tick (by rwa [rfStep_idle h.rfState])⟩
  · cases hl : isHigh l with
    | false => exact ⟨3#3, .inr rfl, h.tick (by simpa [rfStep_detectEnd h.rfState, hl] using h)⟩
    | true =>
      refine ⟨0#3, .inl rfl, h.tick ?_⟩
      have hnone : ¬ (c.edgePendingMode = .latch ∧ r.edgePend = 1#1) := by simp [h.edgePend]
      rw [rfStep_detectEnd h.rfState, if_pos hl, rearm_armed hnone]
      exact ⟨h.atRest, rfl, rfl, h.rfDet, h.edgePend⟩

/-- TICKs keep the result of a sequence that is over (42_rf_qualifier.md R163). -/
theorem QualifierAt.settled_rfDet {is : List Instr} (hticks : ∀ i ∈ is, ∃ l, i = .tick l)
    (hs : code = 0#3 ∨ code = 3#3) (h : QualifierAt code 0 d 0#1 r) :
    (runRegs c r is).rfDet = d := by
  induction is generalizing r code with
  | nil => exact h.rfDet
  | cons i is ih =>
    obtain ⟨⟨l, rfl⟩, hrest⟩ := List.forall_mem_cons.mp hticks
    obtain ⟨code', hs', h'⟩ := h.settled_tick (c := c) l hs
    exact ih hrest hs' h'

end

/-- From a state and a run length the `k`-th of the operations is the TICK that ends the sequence,
with `b` as its result: `RF_DET` is as at the start before it. -/
def Decides (c : Config) (code : Code) (count : Nat) (pend : Bit) (is : List Instr) (k : Nat)
    (b : Bit) : Prop :=
  ∀ d r, QualifierAt code count d pend r →
    (∀ n < k, (runRegs c r (is.take n)).rfDet = d) ∧
      QualifierAt 3#3 0 b pend (runRegs c r (is.take k))

section
variable {c : Config} {code code' : Code} {count count' k : Nat} {p b : Bit} {is : List Instr}

/-- A TICK ahead of the rest that keeps `RF_DET`. -/
theorem Decides.tick {l : Bit}
    (hkeep : ∀ d r, QualifierAt code count d p r → QualifierAt code' count' d p (tickRegs c l r))
    (h : Decides c code' count' p is k b) :
    Decides c code count p (.tick l :: is) (k + 1) b := by
  intro d r hr
  obtain ⟨hbefore, hend⟩ := h d _ (hkeep d r hr)
  refine ⟨fun n hn => ?_, hend⟩
  cases n with
  | zero => exact hr.rfDet
  | succ n => exact hbefore n (Nat.lt_of_succ_lt_succ hn)

/-- A TICK that ends the sequence. -/
theorem Decides.lastTick {l : Bit}
    (hend : ∀ d r, QualifierAt code count d p r → QualifierAt 3#3 0 b p (tickRegs c l r)) :
    Decides c code count p (.tick l :: is) 1 b := by
  intro d r hr
  refine ⟨fun n hn => ?_, hend d r hr⟩
  obtain rfl : n = 0 := Nat.lt_one_iff.mp hn
  exact hr.rfDet

/-- A run of TICKs ahead of the rest that are all counted. -/
theorem Decides.counted {l : Bit} {j : Nat}
    (hcount : ∀ n < j, ∀ d r, QualifierAt code n d p r →
      QualifierAt code (n + 1) d p (tickRegs c l r))
    (h : Decides c code j p is k b) :
    Decides c code 0 p (List.replicate j (.tick l) ++ is) (j + k) b := by
  induction j generalizing is k with
  | zero => simpa using h
  | succ j ih =>
    rw [List.replicate_succ', List.append_assoc, List.singleton_append, Nat.add_right_comm,
      Nat.add_assoc]
    exact ih (fun n hn => hcount n (Nat.lt_succ_of_lt hn)) (.tick (hcount j (Nat.lt_succ_self j)) h)

/-- A high run below the threshold. -/
theorem Decides.highRun (w : c.WellFormed) {j : Nat} (hj : j < c.countHigh)
    (h : Decides c 1#3 j p is k b) :
    Decides c 1#3 0 p (List.replicate j (.tick 1#1) ++ is) (j + k) b :=
  .counted (fun _ hn _ _ hr => hr.highCounted w (by omega)) h

/-- A high run that reaches the threshold: its last sample is not counted in DetectLow
(42_rf_qualifier.md R160). -/
theorem Decides.highFull (w : c.WellFormed) (hpos : 1 ≤ c.countHigh)
    (h : Decides c 2#3 0 p is k b) :
    Decides c 1#3 0 p (List.replicate c.countHigh (.tick 1#1) ++ is) (c.countHigh + k) b := by
  obtain ⟨j, hj⟩ := Nat.exists_eq_add_of_le' hpos
  have hlast : Decides c 1#3 j p (.tick 1#1 :: is) (k + 1) b :=
    .tick (fun _ _ hr => hr.highReached hj.le) h
  have hrun := Decides.highRun w (by omega) hlast
  rwa [hj, List.replicate_succ', List.append_assoc, List.singleton_append, Nat.add_right_comm,
    Nat.add_assoc]

/-- A high run that ends early but within tolerance; the sample that ends it is not counted in
DetectLow (42_rf_qualifier.md R160). -/
theorem Decides.highTolerated (w : c.WellFormed) {j : Nat} (hj : j < c.countHigh)
    (htol : c.countHigh ≤ j + c.countOler) (h : Decides c 2#3 0 p is k b) :
    Decides c 1#3 0 p (List.replicate j (.tick 1#1) ++ .tick 0#1 :: is) (j + (k + 1)) b :=
  .highRun w hj (.tick (fun _ _ hr => hr.highTolerated htol) h)

/-- A high run that ends too early fails. -/
theorem Decides.highFailed (w : c.WellFormed) {j : Nat} (hj : ¬ c.countHigh ≤ j + c.countOler) :
    Decides c 1#3 0 p (List.replicate j (.tick 1#1) ++ .tick 0#1 :: is) (j + 1) 0#1 :=
  .highRun w (by omega) (.lastTick fun _ _ hr => hr.highFailed hj)

/-- A low run that reaches the threshold succeeds there, however long it goes on. -/
theorem Decides.lowFull (w : c.WellFormed) (hpos : 1 ≤ c.countLow) {m : Nat} (hm : c.countLow ≤ m) :
    Decides c 2#3 0 p (List.replicate m (.tick 0#1) ++ is) c.countLow 1#1 := by
  obtain ⟨j, hj⟩ := Nat.exists_eq_add_of_le' hpos
  obtain ⟨x, rfl⟩ := Nat.exists_eq_add_of_le hm
  have hlast : Decides c 2#3 j p (.tick 0#1 :: (List.replicate x (.tick 0#1) ++ is)) 1 1#1 :=
    .lastTick fun _ _ hr => hr.lowReached hj.le
  have hrun := Decides.counted (l := 0#1)
    (fun n hn _ _ hr => QualifierAt.lowCounted w hr (by omega)) hlast
  rwa [List.replicate_add, hj, List.replicate_succ', List.append_assoc, List.append_assoc,
    List.singleton_append]

/-- A low run below the threshold is judged at the HIGH sample that ends it. -/
theorem Decides.lowEnded (w : c.WellFormed) {m : Nat} (hm : m < c.countLow) :
    Decides c 2#3 0 p (List.replicate m (.tick 0#1) ++ .tick 1#1 :: is) (m + 1)
      (if c.countLow ≤ m + c.countOler then 1#1 else 0#1) :=
  .counted (fun _ hn _ _ hr => hr.lowCounted w (by omega)) (.lastTick fun _ _ hr => hr.lowEnded)

/-- A high run past the threshold is judged at the sample after it, as a low run of length 0. -/
theorem Decides.highOverlong (w : c.WellFormed) (hpos : 1 ≤ c.countHigh) {h : Nat}
    (hh : c.countHigh < h) :
    Decides c 1#3 0 p (List.replicate h (.tick 1#1) ++ is) (c.countHigh + 1)
      (if c.countLow ≤ c.countOler then 1#1 else 0#1) := by
  obtain ⟨x, rfl⟩ := Nat.exists_eq_add_of_lt hh
  rw [Nat.add_assoc, List.replicate_add, List.append_assoc]
  refine .highFull w hpos (.lastTick fun _ _ hr => ?_)
  simpa using hr.lowEnded (c := c)

/-- The value of `RF_DET` after each of the TICKs: as at the start before the one that decides, and
its result from it on, when no edge is kept. -/
theorem Decides.rfDet_eq {d : Bit} {r : Regs} (h : Decides c code count 0#1 is k b)
    (hticks : ∀ i ∈ is, ∃ l, i = .tick l) (hr : QualifierAt code count d 0#1 r) (n : Nat) :
    (runRegs c r (is.take n)).rfDet = if n < k then d else b := by
  obtain ⟨hbefore, hend⟩ := h d r hr
  split
  · next hn => exact hbefore n hn
  · next hn =>
    obtain ⟨x, rfl⟩ := Nat.exists_eq_add_of_le (Nat.le_of_not_lt hn)
    rw [List.take_add, runRegs_append]
    exact hend.settled_rfDet
      (fun i hi => hticks i (List.mem_of_mem_drop (List.mem_of_mem_take hi))) (.inr rfl)

end

end Sys2Proof.Safety

namespace Sys2Proof.Proofs

open Sys2Proof.Machine Sys2Proof.Safety

/-- Settles O34: the high run ends in DetectLow at its last TICK, and so does the low run in
DetectEnd. -/
theorem cleanSignalIsDetected : Obligations.CleanSignalIsDetected := by
  intro s r hr w hrest hen hhigh hlow n hn
  obtain ⟨log, he⟩ := execAll_running (.edge :: (List.replicate s.cfg.countHigh (Instr.tick 1#1) ++
    List.replicate s.cfg.countLow (Instr.tick 0#1)).take n) hr w
  refine ⟨_, _, he, rfl, ?_⟩
  rw [runRegs_cons, opRegs]
  have hlowRun := Decides.lowFull (p := r.edgePend) (is := []) w hlow le_rfl
  rw [List.append_nil] at hlowRun
  obtain ⟨hbefore, hend⟩ := Decides.highFull w hhigh hlowRun _ _ (rfEdge_qualifierAt hrest hen)
  rcases hn.lt_or_eq with hlt | rfl
  · rw [if_pos hlt]
    exact hbefore n hlt
  · rw [if_neg (lt_irrefl _)]
    exact ⟨hend.rfDet, hend.rfState⟩

/-- Settles O35: the high run is one sample short of the tolerance when it drops. -/
theorem shortHighRunIsNotDetected : Obligations.ShortHighRunIsNotDetected := by
  intro s r h hr w hrest hen hh
  obtain ⟨log, he⟩ :=
    execAll_running (.edge :: (List.replicate h (Instr.tick 1#1) ++ [.tick 0#1])) hr w
  refine ⟨_, _, he, rfl, ?_⟩
  rw [runRegs_cons, opRegs]
  have hfail : ¬ s.cfg.countHigh ≤ h + s.cfg.countOler := by omega
  obtain ⟨-, hend⟩ := Decides.highFailed w (is := []) hfail _ _ (rfEdge_qualifierAt hrest hen)
  rw [List.take_of_length_le (by simp)] at hend
  exact ⟨hend.rfDet, hend.rfState⟩

/-- Settles O36: each row of R164 is a high run followed, where it reaches DetectLow, by a low run.
No edge is kept at the start, so nothing changes the result after the TICK that decides. -/
theorem cleanPulseOutcome : Obligations.CleanPulseOutcome := by
  intro s r h m hr hinv hrest hen hhigh hlow hh hm CH CL CT out n _
  obtain ⟨w, hregs⟩ := (stateInv_running hr).mp hinv
  obtain ⟨log, he⟩ := execAll_running (.edge :: (List.replicate h (Instr.tick 1#1) ++
    List.replicate m (Instr.tick 0#1) ++ [Instr.tick 1#1]).take n) hr w
  refine ⟨_, _, he, rfl, ?_⟩
  rw [runRegs_cons, opRegs, List.append_assoc]
  have hpend : r.edgePend = 0#1 := (BitVec.eq_zero_or_eq_one _).resolve_right fun hp =>
    absurd (hen.symm.trans (hregs.edgePend_latch hp).1) (by decide)
  have hstart := rfEdge_qualifierAt (c := s.cfg) hrest hen
  rw [hpend] at hstart
  refine Decides.rfDet_eq ?_ (fun i hi => ?_) hstart n
  · simp only [out]
    split
    · next hover => simpa using Decides.highOverlong w hhigh hover
    · split
      · next hfull =>
        rw [hfull]
        split
        · next hreach => exact .highFull w hhigh (.lowFull w hlow hreach)
        · next hshort => simpa [Nat.add_assoc] using .highFull w hhigh (.lowEnded w (by omega))
      · obtain ⟨m, rfl⟩ := Nat.exists_eq_add_of_le' hm
        rw [List.replicate_succ, List.cons_append, Nat.add_sub_cancel]
        split
        · next htol =>
          split
          · next hreach =>
            exact .highTolerated w (by omega) htol (.lowFull w hlow hreach)
          · next hshort =>
            simpa [Nat.add_assoc] using
              Decides.highTolerated w (by omega) htol (.lowEnded w (by omega))
        · next hfail => exact .highFailed w hfail
  · simp only [List.mem_append, List.mem_replicate, List.mem_singleton] at hi
    obtain ⟨-, rfl⟩ | ⟨-, rfl⟩ | rfl := hi <;> exact ⟨_, rfl⟩

/-- Settles O37: of the operations but RESET, TICK alone writes `RF_DET`, by RF_STEP. -/
theorem detectionChangesOnlyOnEntryToDetectEnd :
    Obligations.DetectionChangesOnlyOnEntryToDetectEnd := by
  intro i s t r r' hi hr he ht hchanged
  obtain rfl := exec_next_regs hr he ht
  exact opRegs_rfDet_changed hi hchanged

/-- Settles O38: RF_STEP and RF_EDGE each clear the run length with the state they write, RESET
writes it as 0, and nothing else writes the state. -/
theorem qualifierTransitionClearsRunLength : Obligations.QualifierTransitionClearsRunLength := by
  intro i s t r r' hr he ht hchanged
  obtain rfl := exec_next_regs hr he ht
  exact opRegs_rfState_changed hchanged

/-- Settles O27: in Idle RF_STEP does nothing. -/
theorem tickInRfIdle : Obligations.TickInRfIdle := by
  intro s r l hr hrest hs
  refine ⟨_, exec_tick_running l hr, ?_⟩
  have hq := tickRegs_qualifier (c := s.cfg) l hrest
  rwa [rfStep_idle hs] at hq

/-- Settles O28: DetectHigh on a HIGH sample, at the threshold and below it. -/
theorem tickInDetectHighLineHigh : Obligations.TickInDetectHighLineHigh := by
  intro s r hr w hrest hs
  refine ⟨_, exec_tick_running 1#1 hr, ?_⟩
  obtain ⟨hstate, hcnt, hdet, hen, hpend⟩ := tickRegs_qualifier (c := s.cfg) 1#1 hrest
  rw [hstate, hcnt, hdet, hen, hpend]
  split
  · next hreach =>
    rw [rfStep_high_reached hs hreach]
    exact ⟨⟨rfl, rfl⟩, rfl, rfl, rfl⟩
  · next hbelow =>
    have hfit := w.countHigh_le
    rw [rfStep_high_counted hs hbelow]
    exact ⟨⟨hs, ofNat16_toNat (by omega)⟩, rfl, rfl, rfl⟩

/-- Settles O29: DetectHigh on a LOW sample, within tolerance and not. -/
theorem tickInDetectHighLineLow : Obligations.TickInDetectHighLineLow := by
  intro s r hr hrest hs
  refine ⟨_, exec_tick_running 0#1 hr, ?_⟩
  obtain ⟨hstate, hcnt, hdet, hen, hpend⟩ := tickRegs_qualifier (c := s.cfg) 0#1 hrest
  rw [hstate, hcnt, hdet, hen, hpend]
  split
  · next htol =>
    rw [rfStep_high_tolerated hs htol]
    exact ⟨⟨rfl, rfl, rfl⟩, rfl, rfl⟩
  · next hfail =>
    rw [rfStep_high_failed hs hfail]
    exact ⟨⟨rfl, rfl, rfl⟩, rfl, rfl⟩

/-- Settles O30: DetectLow on a LOW sample, at the threshold and below it. -/
theorem tickInDetectLowLineLow : Obligations.TickInDetectLowLineLow := by
  intro s r hr w hrest hs
  refine ⟨_, exec_tick_running 0#1 hr, ?_⟩
  obtain ⟨hstate, hcnt, hdet, hen, hpend⟩ := tickRegs_qualifier (c := s.cfg) 0#1 hrest
  rw [hstate, hcnt, hdet, hen, hpend]
  split
  · next hreach =>
    rw [rfStep_low_reached hs hreach]
    exact ⟨⟨rfl, rfl, rfl⟩, rfl, rfl⟩
  · next hbelow =>
    have hfit := w.countLow_le
    rw [rfStep_low_counted hs hbelow]
    exact ⟨⟨hs, ofNat16_toNat (by omega), rfl⟩, rfl, rfl⟩

/-- Settles O31: DetectLow on a HIGH sample is one equation, with the tolerance in `RF_DET`. -/
theorem tickInDetectLowLineHigh : Obligations.TickInDetectLowLineHigh := by
  intro s r hr hrest hs
  refine ⟨_, exec_tick_running 1#1 hr, ?_⟩
  have hq := tickRegs_qualifier (c := s.cfg) 1#1 hrest
  rwa [rfStep_low_ended hs] at hq

/-- Settles O32: DetectEnd re-arms on a HIGH sample and waits on a LOW one. -/
theorem tickInDetectEnd : Obligations.TickInDetectEnd := by
  intro s r l hr hrest hs
  refine ⟨_, exec_tick_running l hr, ?_⟩
  obtain ⟨hstate, hcnt, hdet, hen, hpend⟩ := tickRegs_qualifier (c := s.cfg) l hrest
  rw [hstate, hcnt, hdet, hen, hpend, rfStep_detectEnd hs]
  by_cases hl : l = 1#1
  · have hhigh : isHigh l = true := by simp [isHigh, hl]
    rw [if_pos hl, if_pos hhigh]
    exact ⟨⟨rearm_rfCnt _ _, rearm_qualifier _ _⟩, rearm_rfDet _ _⟩
  · have hlow : ¬ isHigh l = true := by simp [isHigh, hl]
    rw [if_neg hl, if_neg hlow]
    exact ⟨⟨hs, rfl, rfl, rfl⟩, rfl⟩

/-- Settles O33: RF_STEP re-arms from an unrecognized code. -/
theorem tickRecoversQualifier : Obligations.TickRecoversQualifier := by
  intro s r l hr hrest hcode
  refine ⟨_, exec_tick_running l hr, ?_⟩
  obtain ⟨hstate, hcnt, hdet, hen, hpend⟩ := tickRegs_qualifier (c := s.cfg) l hrest
  rw [hstate, hcnt, hdet, hen, hpend, rfStep_unrecognized l hcode]
  exact ⟨rearm_rfCnt _ _, rearm_rfDet _ _, rearm_qualifier _ _⟩

/-- Settles O39: EDGE is RF_EDGE on a running block, whatever the ramp controller does. -/
theorem edgeArmsKeepsOrDrops : Obligations.EdgeArmsKeepsOrDrops := by
  intro s r hr
  rw [show exec .edge s = .next (s.withRegs (rfEdge s.cfg r)) from onRunning_running hr, rfEdge_eq]
  rfl

end Sys2Proof.Proofs

/-! SUPPORT. Proofs about command confirmation (43_command_confirmation.md): the transitions R181 to
R185 as an FG leaves them, the exact run of its timer R189, and where `CMD` changes R186. -/

namespace Sys2Proof.Machine

/-! ### The confirmation registers after FG and TICK -/

section
variable (c : Config) (b l : Bit) (r : Regs)

/-- FG writes `CC_STATE`, `CC_TIMER` and `IND` by CC_STEP alone (44_operations.md R213). -/
@[simp] theorem fgRegs_ccState : (fgRegs c b r).ccState = (ccStep c r).ccState :=
  posStep_ccState c b _

@[simp] theorem fgRegs_ccTimer : (fgRegs c b r).ccTimer = (ccStep c r).ccTimer :=
  posStep_ccTimer c b _

@[simp] theorem fgRegs_ind : (fgRegs c b r).ind = (ccStep c r).ind :=
  posStep_ind c b _

/-- TICK writes the prescaler by COUNTDOWN_STEP alone (44_operations.md R217). -/
theorem tickRegs_prescCnt : (tickRegs c l r).prescCnt = (countdownStep c r).prescCnt := by
  unfold tickRegs countdownStep
  rw [gatedRfStep_prescCnt, pwmStep_prescCnt]
  split <;> rfl

/-- TICK writes `CC_TIMER` by COUNTDOWN_STEP alone (44_operations.md R217). -/
theorem tickRegs_ccTimer : (tickRegs c l r).ccTimer = (countdownStep c r).ccTimer := by
  unfold tickRegs countdownStep
  rw [gatedRfStep_prescCnt, pwmStep_prescCnt]
  split <;> simp

end

end Sys2Proof.Machine

namespace Sys2Proof.Safety

open Sys2Proof.Machine

/-! ### Where `CMD` changes -/

section
variable {c : Config} {r : Regs}

/-- POS_STEP clears `CMD` at the end of a motion and nowhere else (41_positioning.md R137). -/
theorem posStep_cmd (c : Config) (b : Bit) (r : Regs) :
    (posStep c b r).cmd = if MotionDone r then 0#1 else r.cmd := by
  rcases posCode_cases r.posState with hs | ⟨up, hs⟩ | ⟨up, hs⟩ | hs
  · rw [posStep_atRest hs, posAtRest, if_neg (c := MotionDone r) (by simp [hs])]
    split <;> rfl
  · have hmoving : r.posState = 1#3 ∨ r.posState = 2#3 := (exists_movingCode_iff _).mp ⟨up, hs⟩
    rw [posStep_moving b hs]
    by_cases hdone : r.dcCur = r.dcTgt
    · rw [if_pos hdone, if_pos ⟨hmoving, hdone⟩, completeMotion_cmd]
    · rw [if_neg hdone, if_neg fun ⟨_, heq⟩ => hdone heq]
  · have hnot : ¬ MotionDone r := by cases up <;> simp [hs, waitingCode]
    rw [posStep_waiting b hs, if_neg hnot]
    split <;> rfl
  · have hnot : ¬ MotionDone r := fun ⟨hmoving, _⟩ => by bv_omega
    rw [posStep_unrecognized b hs, if_neg hnot, posRecover_cmd]

/-- `CMD` after FG: CC_STEP's, but cleared where the same FG ends a motion (41_positioning.md R137,
44_operations.md R218). -/
theorem fgRegs_cmd (c : Config) (b : Bit) (r : Regs) :
    (fgRegs c b r).cmd = if MotionDone r then 0#1 else (ccStep c r).cmd := by
  simp only [fgRegs, posStep_cmd, MotionDone, ccStep_posState, ccStep_dcCur, ccStep_dcTgt]

/-- CC_STEP sets `CMD` only on a full absence in WaitingForEnd (43_command_confirmation.md R183). -/
theorem cmdAtPosStep_set (hclear : r.cmd = 0#1) (hset : cmdAtPosStep r = 1#1) :
    r.ccState = 2#3 ∧ r.rfDet = 0#1 ∧ r.ccTimer = 0#16 := by
  unfold cmdAtPosStep at hset
  split at hset
  · next habsent => exact habsent
  · split at hset
    · exact absurd hset (by decide)
    · exact absurd (hclear.symm.trans hset) (by decide)

/-- CC_STEP clears `CMD` only at the end of the cooldown (43_command_confirmation.md R184). -/
theorem cmdAtPosStep_cleared (hset : r.cmd = 1#1) (hclear : cmdAtPosStep r = 0#1) :
    r.ccState = 3#3 ∧ r.ccTimer = 0#16 := by
  unfold cmdAtPosStep at hclear
  split at hclear
  · exact absurd hclear (by decide)
  · split at hclear
    · next hcooled => exact hcooled
    · exact absurd (hset.symm.trans hclear) (by decide)

/-- Of the operations but RESET, FG alone writes `CMD` (10_state.md R45). -/
theorem opRegs_cmd_cases {i : Instr} (hi : i ≠ .reset) :
    (opRegs c r i).cmd = r.cmd ∨
      (∃ b, i = .fg b) ∧ (opRegs c r i).cmd = if MotionDone r then 0#1 else cmdAtPosStep r := by
  cases i with
  | tick l =>
    obtain ⟨-, -, -, -, hcmd, -⟩ := tickRegs_frame c l r
    exact .inl hcmd
  | edge => exact .inl (rfEdge_cmd c r)
  | fg b => exact .inr ⟨⟨b, rfl⟩, by rw [opRegs, fgRegs_cmd, ccStep_cmd]⟩
  | obs x => exact .inl rfl
  | reset => exact absurd rfl hi

end

/-! ### The run of the timer -/

/-- `CC_TIMER` runs out within `k` more TICKs, by the count of 43_command_confirmation.md R189. -/
def TimerDue (c : Config) (k : Nat) (r : Regs) : Prop :=
  r.ccTimer.toNat * c.prescale ≤ r.prescCnt.toNat + k

section
variable {c : Config} {r : Regs}

/-- With the prescaler inside its unit the timer is due now exactly when it reads 0. -/
theorem timerDue_zero_iff (hp : r.prescCnt.toNat < c.prescale) :
    TimerDue c 0 r ↔ r.ccTimer = 0#16 := by
  rw [TimerDue, Nat.add_zero]
  constructor
  · intro hdue
    have hlt : r.ccTimer.toNat * c.prescale < 1 * c.prescale := by omega
    have hzero : r.ccTimer.toNat < 1 := Nat.lt_of_mul_lt_mul_right hlt
    exact BitVec.eq_of_toNat_eq (Nat.lt_one_iff.mp hzero)
  · intro hzero
    simp [hzero]

/-- One COUNTDOWN_STEP brings the timer one TICK nearer its end, on a wrap of the prescaler and
between wraps (60_exceptions.md R240, R241). -/
theorem countdownStep_timerDue (w : c.WellFormed) (hp : r.prescCnt.toNat < c.prescale) (k : Nat) :
    TimerDue c k (countdownStep c r) ↔ TimerDue c (k + 1) r := by
  have hfit := w.prescale_le
  unfold TimerDue
  by_cases hwrap : c.prescale ≤ r.prescCnt.toNat + 1
  · rw [countdownStep_wrap hwrap]
    simp only [dec0_toNat, Nat.sub_one_mul, BitVec.toNat_ofNat]
    omega
  · rw [countdownStep_count (by omega)]
    dsimp only
    rw [ofNat16_toNat (by omega)]
    omega

/-- Every operation keeps the prescaler inside its unit (R46(j)). -/
theorem opRegs_prescCnt_lt (w : c.WellFormed) (hp : r.prescCnt.toNat < c.prescale) (i : Instr) :
    (opRegs c r i).prescCnt.toNat < c.prescale := by
  cases i with
  | tick l => exact tickRegs_prescCnt c l r ▸ countdownStep_prescCnt_lt w r
  | edge => simpa [opRegs] using hp
  | fg b => simpa [opRegs, fgRegs] using hp
  | obs x => exact hp
  | reset => exact w.prescale_pos

/-- Without FG and RESET an operation brings the timer nearer its end by the TICKs in it. -/
theorem opRegs_timerDue (w : c.WellFormed) (hp : r.prescCnt.toNat < c.prescale) {i : Instr}
    (hreset : i ≠ .reset) (hfg : ∀ b, i ≠ .fg b) (k : Nat) :
    TimerDue c k (opRegs c r i) ↔ TimerDue c (k + tickCount [i]) r := by
  cases i with
  | tick l =>
    have hcount := countdownStep_timerDue w hp k
    rwa [TimerDue, ← tickRegs_prescCnt c l, ← tickRegs_ccTimer c l] at hcount
  | edge => simp [TimerDue, opRegs, tickCount]
  | fg b => exact absurd rfl (hfg b)
  | obs x => rfl
  | reset => exact absurd rfl hreset

end

/-- Without FG and RESET a list of operations leaves `CC_TIMER` at 0 exactly when it holds the TICKs
of R189's count. -/
theorem runRegs_ccTimer_eq_zero_iff {c : Config} {r : Regs} (w : c.WellFormed) {is : List Instr}
    (hreset : .reset ∉ is) (hfg : ∀ b, .fg b ∉ is) (hp : r.prescCnt.toNat < c.prescale) :
    (runRegs c r is).ccTimer = 0#16 ↔ TimerDue c (tickCount is) r := by
  induction is generalizing r with
  | nil => exact (timerDue_zero_iff hp).symm
  | cons i is ih =>
    obtain ⟨hi, his⟩ := List.ne_and_not_mem_of_not_mem_cons hreset
    have hfg' : ∀ b, i ≠ .fg b := fun b h => hfg b (h ▸ List.mem_cons_self)
    calc (runRegs c r (i :: is)).ccTimer = 0#16
        ↔ TimerDue c (tickCount is) (opRegs c r i) :=
          ih his (fun b hb => hfg b (List.mem_cons_of_mem _ hb)) (opRegs_prescCnt_lt w hp i)
      _ ↔ TimerDue c (tickCount is + tickCount [i]) r := opRegs_timerDue w hp hi.symm hfg' _
      _ ↔ TimerDue c (tickCount (i :: is)) r := by rw [tickCount_cons i is, Nat.add_comm]

end Sys2Proof.Safety

namespace Sys2Proof.Proofs

open Sys2Proof.Machine Sys2Proof.Safety

/-- Settles O24: each TICK brings the timer one nearer its end, by induction on the list. -/
theorem confirmationTimerRunsOutAfterItsTicks :
    Obligations.ConfirmationTimerRunsOutAfterItsTicks := by
  intro is s r hr w hp hreset hfg
  obtain ⟨log, he⟩ := execAll_running is hr w
  exact ⟨_, _, he, rfl, runRegs_ccTimer_eq_zero_iff w hreset hfg hp⟩

/-- Settles O54: a change of `CMD` is FG's, made by CC_STEP or by the end of a motion. -/
theorem commandIsSetAndClearedOnlyWhereSaid : Obligations.CommandIsSetAndClearedOnlyWhereSaid := by
  intro i s t r r' hi hr he ht
  obtain rfl := exec_next_regs hr he ht
  rcases opRegs_cmd_cases (c := s.cfg) (r := r) hi with hkept | ⟨hfg, hcmd⟩
  · rw [hkept]
    exact ⟨fun h0 h1 => absurd (h0.symm.trans h1) (by decide),
      fun h1 h0 => absurd (h0.symm.trans h1) (by decide)⟩
  · rw [hcmd]
    split
    · next hdone => exact ⟨fun _ h1 => absurd h1 (by decide), fun _ _ => ⟨hfg, .inr hdone⟩⟩
    · exact ⟨fun h0 h1 => ⟨hfg, cmdAtPosStep_set h0 h1⟩,
        fun h1 h0 => ⟨hfg, .inl (cmdAtPosStep_cleared h1 h0)⟩⟩

/-- Settles O40: CC_STEP reads `POS_STATE` before POS_STEP writes it. -/
theorem fgInConfirmationIdle : Obligations.FgInConfirmationIdle := by
  intro s r b hr w hs
  refine ⟨_, exec_fg_running b hr, ?_⟩
  rw [fgRegs_ccState, fgRegs_ccTimer, fgRegs_ind, fgRegs_cmd, ccStep_idle hs, ccIdle]
  split
  · exact ⟨⟨rfl, loadCfg_toNat _ w.tValidate_le⟩, rfl, rfl⟩
  · exact ⟨⟨hs, rfl⟩, rfl, rfl⟩

/-- Settles O41: the drop, the timer at 0 and the wait, in the order CC_STEP tests them. -/
theorem fgInValidating : Obligations.FgInValidating := by
  intro s r b hr w hs
  refine ⟨_, exec_fg_running b hr, ?_⟩
  rw [fgRegs_ccState, fgRegs_ccTimer, fgRegs_ind, fgRegs_cmd, ccStep_validating hs, ccValidating]
  split
  · exact ⟨⟨rfl, rfl, rfl⟩, rfl⟩
  · split
    · exact ⟨⟨rfl, loadCfg_toNat _ w.tWaitEnd_le, rfl⟩, rfl⟩
    · exact ⟨⟨hs, rfl, rfl⟩, rfl⟩

/-- Settles O42: the reload, the command and the wait; POS_STEP sees the command just emitted. -/
theorem fgInWaitingForEnd : Obligations.FgInWaitingForEnd := by
  intro s r b hr w hs
  refine ⟨_, exec_fg_running b hr, ?_⟩
  rw [fgRegs_ccState, fgRegs_ccTimer, fgRegs_ind, fgRegs_cmd, ccStep_waitingForEnd hs,
    ccWaitingForEnd]
  split
  · exact ⟨hs, loadCfg_toNat _ w.tWaitEnd_le, rfl, rfl⟩
  · split
    · exact ⟨rfl, loadCfg_toNat _ w.tIgnore_le, rfl, rfl⟩
    · exact ⟨hs, rfl, rfl, rfl⟩

/-- Settles O43: at timer 0 `CMD` is cleared whether or not the same FG ends a motion. -/
theorem fgInIgnoring : Obligations.FgInIgnoring := by
  intro s r b hr hs
  refine ⟨_, exec_fg_running b hr, ?_⟩
  rw [fgRegs_ccState, fgRegs_ccTimer, fgRegs_ind, fgRegs_cmd, ccStep_ignoring hs, ccIgnoring]
  split
  · exact ⟨⟨rfl, ite_self _⟩, rfl, rfl⟩
  · exact ⟨⟨hs, rfl⟩, rfl, rfl⟩

/-- Settles O44: recovery writes the code and the timer alone. -/
theorem fgRecoversConfirmation : Obligations.FgRecoversConfirmation := by
  intro s r b hr hcode
  refine ⟨_, exec_fg_running b hr, ?_⟩
  obtain ⟨-, -, -, -, -, -, hpresc, -⟩ := fgRegs_frame s.cfg b r
  rw [fgRegs_ccState, fgRegs_ccTimer, fgRegs_ind, fgRegs_cmd, ccStep_unrecognized hcode]
  exact ⟨rfl, rfl, rfl, hpresc, rfl⟩

end Sys2Proof.Proofs

/-! SUPPORT. Proofs about the operations (44_operations.md): runs, refusals and what a run shows
(R210, R216, R219), OBS and RESET (R214, R215), and the order of the steps of a TICK (R217) and of
an FG (R218). -/

namespace Sys2Proof

/-! ### The word that the decoder reports -/

theorem ite_ok_eq_error {p : Prop} [Decidable p] {i : Instr} {e e' : DecodeError}
    (h : (if p then Except.ok i else Except.error e : Except DecodeError Instr) = .error e') :
    e' = e := by
  split at h
  · cases h
  · exact (Except.error.inj h).symm

/-- A word that is no operation is reported as itself (30_encoding.md R88). -/
theorem decode_error_word {w : OpWord} {e : DecodeError} (h : decode w = .error e) :
    e = .reservedEncoding w := by
  rcases opField_cases w with hop | hop | hop | hop | hop | hop
  · exact ite_ok_eq_error ((decode_of_op_tick hop).symm.trans h)
  · exact ite_ok_eq_error ((decode_of_op_edge hop).symm.trans h)
  · exact ite_ok_eq_error ((decode_of_op_fg hop).symm.trans h)
  · exact ite_ok_eq_error ((decode_of_op_obs hop).symm.trans h)
  · exact ite_ok_eq_error ((decode_of_op_reset hop).symm.trans h)
  · exact (Except.error.inj ((decode_of_op_reserved hop).symm.trans h)).symm

end Sys2Proof

namespace Sys2Proof.Machine

/-! ### What an operation keeps of the run -/

/-- An operation neither reads nor writes the words waiting, and keeps the Refused mark (10_state.md
R45, 44_operations.md R216). -/
theorem exec_next_keeps_run {i : Instr} {s t : State} (h : exec i s = .next t) :
    t.pending = s.pending ∧ t.refusedMark = s.refusedMark := by
  rcases exec_next_cases h with ⟨_, _, -, -, rfl⟩ | ⟨_, -, -, rfl⟩ | ⟨_, _, -, -, rfl⟩ |
    ⟨_, _, -, -, rfl⟩ | ⟨-, -, rfl⟩ <;> exact ⟨rfl, rfl⟩

/-- An operation does the same whatever words wait behind it. -/
theorem exec_next_with_pending {i : Instr} {s t : State} (h : exec i s = .next t)
    (ws : List OpWord) :
    exec i { s with pending := ws } = .next { t with pending := ws } := by
  rcases exec_next_cases h with ⟨l, r, rfl, hr, rfl⟩ | ⟨r, rfl, hr, rfl⟩ | ⟨b, r, rfl, hr, rfl⟩ |
    ⟨x, r, rfl, hr, rfl⟩ | ⟨rfl, w, rfl⟩
  case inr.inr.inr.inr => exact exec_reset_next (s := { s with pending := ws }) w
  all_goals exact onRunning_running (s := { s with pending := ws }) hr

theorem execAll_cons_next {i : Instr} {is : List Instr} {s t : State}
    (h : execAll (i :: is) s = .next t) : ∃ u, exec i s = .next u ∧ execAll is u = .next t := by
  rw [execAll] at h
  split at h
  · next u hu => exact ⟨u, hu, h⟩
  · cases h
  · cases h

/-! ### Steps and the operations they run -/

theorem advance_of_next {s t : State} (h : step s = .next t) : advance s = t := by
  simp [advance, h]

/-- A step whose word is that of an operation leaves what the operation answers. -/
theorem advance_encoded {i : Instr} {s t : State} (h : exec i s = .next t) (ws : List OpWord) :
    advance { s with pending := encode i :: ws } = { t with pending := ws } :=
  advance_of_next <| (step_of_decode_ok rfl (decode_encode i)).trans (exec_next_with_pending h ws)

/-- As many steps as a list has operations do what the list does, its words standing before those
that wait already (44_operations.md R210). -/
theorem advanceN_encoded (is : List Instr) {s t : State} (h : execAll is s = .next t) :
    advanceN is.length { s with pending := is.map encode ++ s.pending } = t := by
  induction is generalizing s with
  | nil => exact Host.Outcome.next.inj h
  | cons i is ih =>
    obtain ⟨u, hexec, hrest⟩ := execAll_cons_next h
    calc advanceN is.length (advance { s with pending := encode i :: (is.map encode ++ s.pending) })
      _ = advanceN is.length { u with pending := is.map encode ++ u.pending } := by
        rw [advance_encoded hexec, (exec_next_keeps_run hexec).1]
      _ = t := ih hrest

/-! ### Refused steps and the Refused mark -/

/-- All a step can do when it is refused: a word waits, and either it is no operation, or the
operation it is refuses (44_operations.md R216). -/
theorem step_refused_cases {s : State} {ρ : Refusal} (h : step s = .refused ρ) :
    ∃ w rest, s.pending = w :: rest ∧
      ((∃ e, decode w = .error e ∧ ρ = refusalOf e) ∨
        ∃ i, decode w = .ok i ∧ exec i { s with pending := rest } = .refused ρ) := by
  cases hp : s.pending with
  | nil => rw [step_of_fetch_none (fetch_idle hp)] at h; cases h
  | cons w rest =>
    refine ⟨w, rest, rfl, ?_⟩
    cases hd : decode w with
    | error e =>
      rw [step_of_decode_error hp hd] at h
      exact .inl ⟨e, rfl, (Host.Outcome.refused.inj h).symm⟩
    | ok i => exact .inr ⟨i, rfl, (step_of_decode_ok hp hd).symm.trans h⟩

/-- Every step of a run keeps a Refused mark that is set (44_operations.md R216). -/
theorem advance_refusedMark {s : State} (h : s.refusedMark = true) :
    (advance s).refusedMark = true := by
  rcases advance_cases s with hnext | hrefused
  · rcases step_next_cases hnext with ⟨-, hidle⟩ | ⟨_, _, _, -, -, hexec⟩
    · rw [hidle, h]
    · exact (exec_next_keeps_run hexec).2.trans h
  · rw [hrefused, afterRefusal_refusedMark]

/-! ### What a run shows -/

theorem advanceN_add (n m : Nat) (s : State) :
    advanceN (n + m) s = advanceN m (advanceN n s) := by
  induction n generalizing s with
  | zero => rw [Nat.zero_add, advanceN]
  | succ n ih => rw [Nat.succ_add, advanceN, advanceN, ih]

/-- Each step takes one word (44_operations.md R210). -/
theorem advanceN_pending (n : Nat) (s : State) :
    (advanceN n s).pending = s.pending.drop n := by
  induction n generalizing s with
  | zero => rfl
  | succ n ih => rw [advanceN, ih, advance_pending, List.drop_tail]

/-- Steps with no operation waiting change nothing (log entry 4). -/
theorem advanceN_idle (n : Nat) {s : State} (h : s.pending = []) : advanceN n s = s := by
  induction n with
  | zero => rfl
  | succ n ih => rw [advanceN, advance_idle h, ih]

/-- One entry for each operation taken (44_operations.md R219). -/
theorem portTrace_length (n : Nat) (s : State) :
    (portTrace n s).length = min n s.pending.length := by
  induction n generalizing s with
  | zero => simp [portTrace]
  | succ n ih =>
    cases hp : s.pending with
    | nil => simp [portTrace_idle _ hp]
    | cons w rest => simp [portTrace_cons n hp, ih, hp]

/-- The entry of an operation is the ports of the state that it leaves (44_operations.md R219). -/
theorem portTrace_getElem? {n k : Nat} {s : State} (hn : k < n) (hk : k < s.pending.length) :
    (portTrace n s)[k]? = some (ports (advanceN (k + 1) s)) := by
  induction n generalizing k s with
  | zero => omega
  | succ n ih =>
    obtain ⟨w, rest, hp⟩ := List.exists_cons_of_length_pos (Nat.zero_lt_of_lt hk)
    rw [portTrace_cons n hp]
    cases k with
    | zero => rfl
    | succ k =>
      rw [List.getElem?_cons_succ, advanceN]
      exact ih (by omega) (by simpa [hp] using hk)

/-- Steps past the last operation waiting add no entry (log entry 4). -/
theorem portTrace_add {n : Nat} {s : State} (h : s.pending.length ≤ n) (m : Nat) :
    portTrace (n + m) s = portTrace n s := by
  induction n generalizing s with
  | zero =>
    have hp : s.pending = [] := List.eq_nil_of_length_eq_zero (by omega)
    rw [portTrace_idle _ hp, portTrace_idle _ hp]
  | succ n ih =>
    cases hp : s.pending with
    | nil => rw [portTrace_idle _ hp, portTrace_idle _ hp]
    | cons w rest =>
      rw [Nat.succ_add, portTrace_cons _ hp, portTrace_cons _ hp, ih (by simpa [hp] using h)]

/-! ### The order of the steps of a TICK (R217) -/

section
variable (c : Config) (l : Bit) (r : Regs)

/-- RF_STEP neither reads nor writes the registers of COUNTDOWN_STEP (44_operations.md R217). -/
theorem rfStep_with_timers (d p t : Word) :
    rfStep c l { r with posDelay := d, prescCnt := p, ccTimer := t } =
      { rfStep c l r with posDelay := d, prescCnt := p, ccTimer := t } := by
  have hrearm : rearm c { r with posDelay := d, prescCnt := p, ccTimer := t } =
      { rearm c r with posDelay := d, prescCnt := p, ccTimer := t } := by
    unfold rearm arm
    dsimp only
    split <;> rfl
  unfold rfStep
  cases rfPhase r.rfState with
  | idle => rfl
  | detectHigh =>
    unfold detectHighOnHigh detectHighOnLow
    dsimp only
    split <;> split <;> rfl
  | detectLow =>
    unfold detectLowOnHigh detectLowOnLow
    dsimp only
    split
    · rfl
    · split <;> rfl
  | detectEnd =>
    dsimp only
    split
    · exact hrearm
    · rfl
  | unrecognized => exact hrearm

/-- COUNTDOWN_STEP in one equation (60_exceptions.md R240). -/
theorem countdownStep_eq :
    countdownStep c r =
      { r with
        posDelay := dec0 r.posDelay
        prescCnt := if c.prescale ≤ r.prescCnt.toNat + 1 then 0#16
          else BitVec.ofNat 16 (r.prescCnt.toNat + 1)
        ccTimer := if c.prescale ≤ r.prescCnt.toNat + 1 then dec0 r.ccTimer else r.ccTimer } := by
  unfold countdownStep
  split <;> rfl

/-- PWM_STEP in one equation (40_pwm.md R101). -/
theorem pwmStep_eq :
    pwmStep c r =
      { r with
        pwmCnt := if c.maxStep ≤ r.pwmCnt.toNat + 1 then 0#16
          else BitVec.ofNat 16 (r.pwmCnt.toNat + 1)
        pwmOut := if c.maxStep ≤ r.pwmCnt.toNat + 1 then 0#1
          else if r.pwmCnt.toNat + 1 ≤ r.dcCur.toNat then 1#1 else 0#1 } := by
  unfold pwmStep
  dsimp only
  split <;> rfl

/-- RF_STEP keeps what PWM_STEP reads, and neither reads nor writes what it writes. -/
theorem rfStep_pwmStep_commute : Function.Commute (rfStep c l) (pwmStep c) := by
  intro r
  simp only [pwmStep_eq, rfStep_with_pwm, rfStep_pwmCnt, rfStep_dcCur]

/-- RF_STEP keeps what COUNTDOWN_STEP reads, and neither reads nor writes what it writes. -/
theorem rfStep_countdownStep_commute : Function.Commute (rfStep c l) (countdownStep c) := by
  intro r
  simp only [countdownStep_eq, rfStep_with_timers, rfStep_posDelay, rfStep_prescCnt,
    rfStep_ccTimer]

/-- PWM_STEP and COUNTDOWN_STEP neither read nor write each other's registers. -/
theorem pwmStep_countdownStep_commute : Function.Commute (pwmStep c) (countdownStep c) := by
  intro r
  simp only [pwmStep_eq, countdownStep_eq]

/-- The gate of a TICK (41_positioning.md R135) lets a step past that keeps `POS_STATE`. -/
theorem gatedRfStep_commute {g : Regs → Regs} (hstep : Function.Commute (rfStep c l) g)
    (hkeep : ∀ r, (g r).posState = r.posState) : Function.Commute (gatedRfStep c l) g := by
  intro r
  unfold gatedRfStep
  rw [hkeep]
  split
  · exact hstep r
  · rfl

end

/-! ### OBS -/

/-- OBS on a running block returns the register at its index (44_operations.md R214). -/
theorem exec_obs_running {s : State} {r : Regs} (g : Reg) (hr : s.block = .running r) :
    exec (.obs (regIndex g)) s = .next { s with obsLog := s.obsLog ++ [readReg r g] } := by
  have hobs : exec (.obs (regIndex g)) s = .next (s.logObs (readReg r (regAt (regIndex g)))) :=
    onRunning_running hr
  rw [hobs, regAt_regIndex, State.logObs]

end Sys2Proof.Machine

namespace Sys2Proof.Proofs

open Sys2Proof.Machine

/-- Settles O8, by induction on the list of operations: each step takes one word, and the operation
it stands for does not depend on the words behind it. -/
theorem stepsRunTheIssuedOperations : Obligations.StepsRunTheIssuedOperations := by
  intro is s t hidle hexec
  have hissue : issue (is.map encode) s = { s with pending := is.map encode ++ s.pending } := by
    rw [issue, hidle, List.nil_append, List.append_nil]
  rw [hissue]
  exact advanceN_encoded is hexec

/-- Settles O11: a refused step is refused by the decoder, by the guard of an operation or by the
check of RESET. -/
theorem refusalHasOneOfThreeReasons : Obligations.RefusalHasOneOfThreeReasons := by
  intro s ρ h
  obtain ⟨w, rest, hp, ⟨e, hd, rfl⟩ | ⟨i, hd, hexec⟩⟩ := step_refused_cases h
  · obtain rfl := decode_error_word hd
    exact ⟨w, rest, hp, .inl ⟨fun i hi => by simp [hd] at hi, rfl, rfl⟩⟩
  · rcases exec_refused_cases hexec with ⟨hi, hunreset, rfl⟩ | ⟨rfl, k, hk, rfl⟩
    · rw [encode_of_decode_ok hd]
      exact ⟨w, rest, hp, .inr (.inl ⟨⟨i, hd, hi⟩, hunreset, rfl, rfl⟩)⟩
    · have hill : ¬ s.cfg.WellFormed := fun wf => by
        simp [(failingCondition_eq_none_iff s.cfg).mpr wf] at hk
      exact ⟨w, rest, hp, .inr (.inr ⟨hd, hill, ⟨k, rfl⟩, rfl⟩)⟩

/-- Settles O13: no operation writes the mark, and a refusal only sets it; by induction on the
steps. -/
theorem refusedMarkIsNeverCleared : Obligations.RefusedMarkIsNeverCleared :=
  ⟨fun _ _ _ hexec => (exec_next_keeps_run hexec).2,
    fun n _ hmark => advanceN_keeps (P := fun s => s.refusedMark = true)
      (fun _ => advance_refusedMark) n hmark⟩

/-- Settles O15: the trace has one entry for each word taken, and once all are taken no step changes
the state. -/
theorem observationIsPerOperation : Obligations.ObservationIsPerOperation := by
  refine ⟨fun n k s hn hk => portTrace_getElem? hn hk, portTrace_length, fun n m s hall => ?_⟩
  have hidle : (advanceN n s).pending = [] := by
    rw [advanceN_pending, List.drop_of_length_le hall]
  have hsame : advanceN (n + m) s = advanceN n s := by rw [advanceN_add, advanceN_idle m hidle]
  rw [observe, observe, hsame, portTrace_add hall m]

/-- Settles O25: any two of the three steps commute, and two exchanges at most lead from the TICK's
order to each other order. -/
theorem tickStepsCommute : Obligations.TickStepsCommute := by
  intro cfg l r p f c
  have hfp : Function.Commute f p :=
    gatedRfStep_commute cfg l (rfStep_pwmStep_commute cfg l) (pwmStep_posState cfg)
  have hfc : Function.Commute f c :=
    gatedRfStep_commute cfg l (rfStep_countdownStep_commute cfg l) (countdownStep_posState cfg)
  have hpc : Function.Commute p c := pwmStep_countdownStep_commute cfg
  have hcpf : tickRegs cfg l r = c (p (f r)) := congrArg c (hfp r)
  have hfcp : tickRegs cfg l r = f (c (p r)) := (hfc (p r)).symm
  have hpcf : tickRegs cfg l r = p (c (f r)) := hcpf.trans (hpc (f r)).symm
  exact ⟨hcpf, hfcp, hfcp.trans (congrArg f (hpc r)).symm, hpcf,
    hpcf.trans (congrArg p (hfc r)).symm⟩

/-- Settles O12: the run goes past a refused step by `afterRefusal`, which writes the mark and the
words waiting alone. -/
theorem refusalSetsTheMarkAndChangesNoRegister :
    Obligations.RefusalSetsTheMarkAndChangesNoRegister := by
  intro s ρ h
  rw [advance_of_refused h]
  exact ⟨rfl, rfl, rfl, rfl, rfl⟩

/-- Settles O17: the check of RESET finds nothing under a well-formed configuration, whose `INIT_DC`
fits the register, and finds a condition under any other. -/
theorem resetLeavesResetValues : Obligations.ResetLeavesResetValues := by
  refine fun s => ⟨fun w => ?_, fun hbound => ?_⟩
  · have hinit : (loadCfg s.cfg.initDc).toNat = s.cfg.initDc :=
      loadCfg_toNat _ (w.initDc_le.trans w.maxStep_le)
    exact ⟨_, exec_reset_next w, rfl, rfl, hinit, hinit, rfl, rfl, rfl, rfl, rfl, rfl, rfl, rfl,
      rfl, rfl, rfl, rfl⟩
  · have hill : ¬ s.cfg.WellFormed := by
      rintro ⟨_, _, _, _, _, _, _, _, _, _, _, _, _, _, _⟩
      omega
    obtain ⟨k, hk⟩ := exists_failingCondition hill
    exact ⟨k, exec_reset_refused hk⟩

/-- Settles O51: AtRest, POS_STEP reads the command that CC_STEP has just set, and CC_STEP reads the
`POS_STATE` that POS_STEP has yet to write. In the other order a press with `RF_DET` 1 leaves AtRest
first, so CC_STEP does not start validation. -/
theorem confirmationRunsBeforeTheRamp : Obligations.ConfirmationRunsBeforeTheRamp := by
  refine ⟨fun s r b hr hrest hs hdet htimer => ?_, fun s r hr hrest hs hdet => ?_, ?_⟩
  · have hcc : ccStep s.cfg r =
        { r with ind := 0#1, cmd := 1#1, ccTimer := loadCfg s.cfg.tIgnore, ccState := 3#3 } := by
      rw [ccStep_waitingForEnd hs, ccWaitingForEnd, if_neg (by simp [hdet]), if_pos htimer]
    refine ⟨_, exec_fg_running b hr, ?_⟩
    rw [fgRegs_atRest_trigger hrest (.inr (by rw [hcc])), hcc]
    exact ⟨rfl, rfl, directionCode_ne_atRest _ _⟩
  · have hcc : ccStep s.cfg r =
        { r with ccState := 1#3, ccTimer := loadCfg s.cfg.tValidate } := by
      rw [ccStep_idle hs, ccIdle, if_pos ⟨hdet, hrest⟩]
    refine ⟨_, exec_fg_running 1#1 hr, ?_⟩
    rw [fgRegs_atRest_trigger hrest (.inl rfl), hcc]
    exact ⟨rfl, directionCode_ne_atRest _ _⟩
  · refine ⟨Config.rc1, 1#1, { Regs.reset Config.rc1 with rfDet := 1#1 }, fun heq => ?_⟩
    exact absurd (congrArg Regs.ccState heq) (by decide)

/-- Settles O56: the sixteen indices are those of the sixteen registers. -/
theorem obsReturnsTheRegister : Obligations.ObsReturnsTheRegister := by
  refine ⟨fun s i hunreset => onRunning_unreset hunreset, fun s r hr => ?_⟩
  have gives (g : Reg) := exec_obs_running g hr
  exact ⟨gives .pwmCnt, gives .pwmOut, gives .dcCur, gives .dcTgt, gives .posDelay, gives .posState,
    gives .rfState, gives .rfCnt, gives .rfDet, gives .edgeEn, gives .ccState, gives .ccTimer,
    gives .prescCnt, gives .cmd, gives .ind, gives .edgePend⟩

end Sys2Proof.Proofs

/-! SUPPORT. Proofs about exceptions and time (60_exceptions.md): the operations that answer next and
the runs that end (R230), and the countdowns of a TICK (R239, R240). -/

namespace Sys2Proof.Machine

/-! ### The operations that answer next -/

/-- A guarded operation answers next exactly on a running block (44_operations.md R216). -/
theorem exists_onRunning_next_iff {i : Instr} {s : State} {f : Regs → State} :
    (∃ t, onRunning i s f = .next t) ↔ ∃ r, s.block = .running r :=
  ⟨fun ⟨_, h⟩ => (onRunning_next h).imp fun _ => And.left, fun ⟨_, hr⟩ => ⟨_, onRunning_running hr⟩⟩

/-- Every operation but RESET is guarded by the reset mark alone (44_operations.md R211 to R214). -/
theorem exists_exec_next_iff_running {i : Instr} (hi : i ≠ .reset) (s : State) :
    (∃ t, exec i s = .next t) ↔ ∃ r, s.block = .running r := by
  cases i with
  | tick l => exact exists_onRunning_next_iff
  | edge => exact exists_onRunning_next_iff
  | fg b => exact exists_onRunning_next_iff
  | obs x => exact exists_onRunning_next_iff
  | reset => exact absurd rfl hi

/-- RESET is guarded by its check of the configuration alone (44_operations.md R215). -/
theorem exists_exec_reset_next_iff (s : State) :
    (∃ t, exec .reset s = .next t) ↔ s.cfg.WellFormed :=
  ⟨fun ⟨_, h⟩ => (execReset_next h).1, fun w => ⟨_, exec_reset_next w⟩⟩

/-! ### The countdowns -/

/-- A countdown steps down by one and stays at 0 (00_scope.md R12). -/
theorem dec0_toNat_eq_ite (v : Word) :
    (dec0 v).toNat = if v.toNat = 0 then 0 else v.toNat - 1 := by
  rw [dec0_toNat]
  split <;> omega

end Sys2Proof.Machine

namespace Sys2Proof.Proofs

open Sys2Proof.Machine

/-- Settles O14: the reset mark guards every operation but RESET, and the check of the configuration
guards RESET; a running block with a well-formed configuration passes both, and every operation leaves
it so. -/
theorem operationsRunToTheirEndOnceReset : Obligations.OperationsRunToTheirEndOnceReset := by
  refine ⟨fun i s => ?_, fun is s r hr w => ?_⟩
  · split
    · next hreset => exact hreset ▸ exists_exec_reset_next_iff s
    · next hother => exact exists_exec_next_iff_running hother s
  · obtain ⟨log, hrun⟩ := execAll_running is hr w
    exact ⟨_, _, hrun, rfl, rfl⟩

/-- Settles O23: the other steps of a TICK leave the countdowns as COUNTDOWN_STEP writes them, and a
count below `PRESCALE` fits its register. -/
theorem tickCountsDown : Obligations.TickCountsDown := by
  intro s r l hr w
  refine ⟨_, exec_tick_running l hr, ?_, ?_⟩
  · rw [tickRegs_posDelay, dec0_toNat_eq_ite]
  · rw [tickRegs_prescCnt, tickRegs_ccTimer]
    split
    · next hwrap =>
      rw [countdownStep_wrap hwrap]
      exact ⟨rfl, dec0_toNat_eq_ite r.ccTimer⟩
    · next hcount =>
      have hfits := w.prescale_le
      rw [countdownStep_count (by omega)]
      exact ⟨ofNat16_toNat (by omega), rfl⟩

end Sys2Proof.Proofs

/-! SUPPORT. Proofs about reset and hazards (70_reset_and_hazards.md): a detection that no later
edge ends (R279). -/

namespace Sys2Proof.Safety

open Sys2Proof.Machine

/-- Every list of operations that answers next keeps the invariant. -/
theorem execAll_next_stateInv {is : List Instr} {s t : State} (h : StateInv s)
    (he : execAll is s = .next t) : StateInv t := by
  induction is generalizing s with
  | nil => exact Host.Outcome.next.inj he ▸ h
  | cons i is ih =>
    obtain ⟨u, hexec, hrest⟩ := execAll_cons_next he
    exact ih (exec_next_stateInv h hexec) hrest

/-! ### A detection that stays (R279) -/

/-- The qualifier Idle with its last result a detection, and the confirmation machine in
WaitingForEnd (70_reset_and_hazards.md R279). -/
structure StuckDetection (r : Regs) : Prop where
  rfState : r.rfState = 0#3
  rfDet : r.rfDet = 1#1
  ccState : r.ccState = 2#3

section
variable {c : Config} {r : Regs} {i : Instr}

/-- Without EDGE the qualifier stays Idle: RF_STEP does nothing there, and RESET leaves it Idle too
(42_rf_qualifier.md R151, R152). -/
theorem opRegs_rfState_idle (hedge : i ≠ .edge) (h : r.rfState = 0#3) :
    (opRegs c r i).rfState = 0#3 := by
  cases i with
  | tick l =>
    rcases tickRegs_qualifier_cases c l r with ⟨hstate, -, -⟩ | ⟨hstate, -⟩
    · exact hstate.trans (by rw [rfStep_idle h, h])
    · exact hstate.trans h
  | edge => exact absurd rfl hedge
  | fg b =>
    obtain ⟨-, -, hstate, -⟩ := fgRegs_frame c b r
    exact hstate.trans h
  | obs x => exact h
  | reset => rfl

/-- From Idle no operation but RESET changes `RF_DET`: it does not decay (42_rf_qualifier.md
R163). -/
theorem opRegs_rfDet_of_idle (hreset : i ≠ .reset) (h : r.rfState = 0#3) :
    (opRegs c r i).rfDet = r.rfDet := by
  by_contra hchanged
  obtain ⟨-, hdetecting, -⟩ := opRegs_rfDet_changed hreset hchanged
  simp [h] at hdetecting

/-- While the detection stands, FG reloads the wait for its end, and no other operation but RESET
writes `CC_STATE` (43_command_confirmation.md R183). -/
theorem opRegs_ccState_waitingForEnd (hreset : i ≠ .reset) (hdet : r.rfDet = 1#1)
    (h : r.ccState = 2#3) : (opRegs c r i).ccState = 2#3 := by
  cases i with
  | tick l =>
    obtain ⟨-, -, -, hstate, -, -⟩ := tickRegs_frame c l r
    exact hstate.trans h
  | edge => exact (rfEdge_ccState c r).trans h
  | fg b =>
    rw [opRegs, fgRegs_ccState, ccStep_waitingForEnd h, ccWaitingForEnd, if_pos hdet]
    exact h
  | obs x => exact h
  | reset => exact absurd rfl hreset

theorem StuckDetection.operation (h : StuckDetection r) (hreset : i ≠ .reset) (hedge : i ≠ .edge) :
    StuckDetection (opRegs c r i) :=
  ⟨opRegs_rfState_idle hedge h.rfState, (opRegs_rfDet_of_idle hreset h.rfState).trans h.rfDet,
    opRegs_ccState_waitingForEnd hreset h.rfDet h.ccState⟩

theorem StuckDetection.operations {is : List Instr} (h : StuckDetection r) (hreset : .reset ∉ is)
    (hedge : .edge ∉ is) : StuckDetection (runRegs c r is) := by
  induction is generalizing r with
  | nil => exact h
  | cons i is ih =>
    obtain ⟨hi, his⟩ := List.ne_and_not_mem_of_not_mem_cons hreset
    obtain ⟨hi', his'⟩ := List.ne_and_not_mem_of_not_mem_cons hedge
    exact ih (h.operation hi.symm hi'.symm) his his'

end

/-- Under the invariant no command stands outside Ignoring (R46(i)). -/
theorem RegsInv.cmd_clear {c : Config} {r : Regs} (h : RegsInv c r) (hs : r.ccState ≠ 3#3) :
    r.cmd = 0#1 :=
  (BitVec.eq_zero_or_eq_one r.cmd).resolve_right fun hset => hs (h.cmd_ignoring hset).1

end Sys2Proof.Safety

namespace Sys2Proof.Proofs

open Sys2Proof.Machine Sys2Proof.Safety

/-- Settles O45: every operation but RESET and EDGE keeps the stuck detection, by induction on the
list, and in WaitingForEnd the invariant gives the indicator (R46(h)) and the command (R46(i)). -/
theorem stuckDetectionNeverConfirms : Obligations.StuckDetectionNeverConfirms := by
  intro is s r hr hinv hidle hdet hwait hreset hedge
  obtain ⟨w, -⟩ := (stateInv_running hr).mp hinv
  obtain ⟨log, he⟩ := execAll_running is hr w
  have hstuck : StuckDetection (runRegs s.cfg r is) :=
    StuckDetection.operations ⟨hidle, hdet, hwait⟩ hreset hedge
  obtain ⟨-, hregs⟩ := (stateInv_running rfl).mp (execAll_next_stateInv hinv he)
  exact ⟨_, _, he, rfl, hstuck.rfDet, hstuck.ccState, hregs.ind_iff.mpr hstuck.ccState,
    hregs.cmd_clear (by simp [hstuck.ccState])⟩

end Sys2Proof.Proofs
